-- ==== Sys2Proof/Word.lean ====
section
/-! DEFINITION. The machine's word types and the names of its operand codes: the seven addressable 8-bit registers,
the operand slot, the two kinds of register pair, the four conditions, the flags, and the operations that the
opcode maps select by a field. Only types stand here; which number a code has stands in Sys2Proof/Decode.lean. -/

namespace Sys2Proof

/-- A `u8` of the spec (00_scope.md section 6.1): a byte of memory, an 8-bit register. -/
abbrev Byte := BitVec 8

/-- A `u16` of the spec: an address, a register pair, SP, PC. -/
abbrev Word := BitVec 16

/-- The seven 8-bit registers an instruction can name (10_state.md R15). F has no code and is not among them. -/
inductive Reg where
  | b | c | d | e | h | l | a
deriving DecidableEq, Repr

/-- The operand slot (30_encoding.md R75): one of the seven registers, or (`indHl`) the memory byte at HL. -/
inductive Slot where
  | b | c | d | e | h | l | indHl | a
deriving DecidableEq, Repr

/-- `rp` of 30_encoding.md R76: the pair operand of the 16-bit loads and arithmetic. -/
inductive Pair where
  | bc | de | hl | sp
deriving DecidableEq, Repr

/-- `rp2` of 30_encoding.md R76: the pair operand of PUSH and POP. -/
inductive StackPair where
  | bc | de | hl | af
deriving DecidableEq, Repr

/-- The four conditions of 30_encoding.md R80: Z clear, Z set, C flag clear, C flag set. -/
inductive Cond where
  | nz | z | nc | c
deriving DecidableEq, Repr

/-- The four flags of F (10_state.md R14): zero, subtract, half carry, carry. -/
inductive Flag where
  | z | n | h | c
deriving DecidableEq, Repr

/-- The eight two-operand operations on A (30_encoding.md R81, the columns 0x80 to 0xBF). -/
inductive AluOp where
  | add | adc | sub | sbc | and | xor | or | cp
deriving DecidableEq, Repr

/-- The eight rotate and shift operations of the extended table (30_encoding.md R73). -/
inductive RotOp where
  | rlc | rrc | rl | rr | sla | sra | swap | srl
deriving DecidableEq, Repr

end Sys2Proof
end

