-- ==== Sys2Proof/Syntax.lean ====
section
/-! DEFINITION. The syntax of the core's instruction set: ONE constructor of `Instr` for every row of
spec/opcode_table.json (245 bound primary opcodes less the prefix, the prefix itself, the eleven unbound
opcodes, and the 256 extended opcodes). A constructor carries the operand bytes that stand in the instruction
stream and nothing else: registers, bit numbers, conditions and vectors are part of the opcode (30_encoding.md
R72 to R82), so they are part of the constructor's name. In a name `Ind…` is a memory operand: `ldAIndHl` is
LD A,(HL), `ldIndA16A` is LD (a16),A, `ldIndHlIncA` is LD (HL+),A. -/

namespace Sys2Proof

/-- An instruction of the core. `d8`, `d16` are data operands, `a8`, `a16` addresses, `e8` the RAW byte of a signed
displacement (30_encoding.md R77 to R79, R87). The rows with operands stand first because Lean's compiler wants the
constructors that carry data among the first 244; the order means nothing else. -/
inductive Instr where
  -- the rows with operand bytes, and the prefix
  | ldBcD16 (d16 : Word)
  | ldBD8 (d8 : Byte)
  | ldIndA16Sp (a16 : Word)
  | ldCD8 (d8 : Byte)
  | ldDeD16 (d16 : Word)
  | ldDD8 (d8 : Byte)
  | jrE8 (e8 : Byte)
  | ldED8 (d8 : Byte)
  | jrNzE8 (e8 : Byte)
  | ldHlD16 (d16 : Word)
  | ldHD8 (d8 : Byte)
  | jrZE8 (e8 : Byte)
  | ldLD8 (d8 : Byte)
  | jrNcE8 (e8 : Byte)
  | ldSpD16 (d16 : Word)
  | ldIndHlD8 (d8 : Byte)
  | jrCE8 (e8 : Byte)
  | ldAD8 (d8 : Byte)
  | jpNzA16 (a16 : Word)
  | jpA16 (a16 : Word)
  | callNzA16 (a16 : Word)
  | addAD8 (d8 : Byte)
  | jpZA16 (a16 : Word)
  | prefixCb (xop : Byte)
  | callZA16 (a16 : Word)
  | callA16 (a16 : Word)
  | adcAD8 (d8 : Byte)
  | jpNcA16 (a16 : Word)
  | callNcA16 (a16 : Word)
  | subD8 (d8 : Byte)
  | jpCA16 (a16 : Word)
  | callCA16 (a16 : Word)
  | sbcAD8 (d8 : Byte)
  | ldhIndA8A (a8 : Byte)
  | andD8 (d8 : Byte)
  | addSpE8 (e8 : Byte)
  | ldIndA16A (a16 : Word)
  | xorD8 (d8 : Byte)
  | ldhAIndA8 (a8 : Byte)
  | orD8 (d8 : Byte)
  | ldHlSpE8 (e8 : Byte)
  | ldAIndA16 (a16 : Word)
  | cpD8 (d8 : Byte)
  -- the other rows of the primary table, 0x00 to 0xFF
  | nop
  | ldIndBcA
  | incBc
  | incB
  | decB
  | rlcAcc
  | addHlBc
  | ldAIndBc
  | decBc
  | incC
  | decC
  | rrcAcc
  | stop
  | ldIndDeA
  | incDe
  | incD
  | decD
  | rlAcc
  | addHlDe
  | ldAIndDe
  | decDe
  | incE
  | decE
  | rrAcc
  | ldIndHlIncA
  | incHl
  | incH
  | decH
  | daa
  | addHlHl
  | ldAIndHlInc
  | decHl
  | incL
  | decL
  | cplAcc
  | ldIndHlDecA
  | incSp
  | incIndHl
  | decIndHl
  | scf
  | addHlSp
  | ldAIndHlDec
  | decSp
  | incA
  | decA
  | ccf
  | ldBB
  | ldBC
  | ldBD
  | ldBE
  | ldBH
  | ldBL
  | ldBIndHl
  | ldBA
  | ldCB
  | ldCC
  | ldCD
  | ldCE
  | ldCH
  | ldCL
  | ldCIndHl
  | ldCA
  | ldDB
  | ldDC
  | ldDD
  | ldDE
  | ldDH
  | ldDL
  | ldDIndHl
  | ldDA
  | ldEB
  | ldEC
  | ldED
  | ldEE
  | ldEH
  | ldEL
  | ldEIndHl
  | ldEA
  | ldHB
  | ldHC
  | ldHD
  | ldHE
  | ldHH
  | ldHL
  | ldHIndHl
  | ldHA
  | ldLB
  | ldLC
  | ldLD
  | ldLE
  | ldLH
  | ldLL
  | ldLIndHl
  | ldLA
  | ldIndHlB
  | ldIndHlC
  | ldIndHlD
  | ldIndHlE
  | ldIndHlH
  | ldIndHlL
  | halt
  | ldIndHlA
  | ldAB
  | ldAC
  | ldAD
  | ldAE
  | ldAH
  | ldAL
  | ldAIndHl
  | ldAA
  | addAB
  | addAC
  | addAD
  | addAE
  | addAH
  | addAL
  | addAIndHl
  | addAA
  | adcAB
  | adcAC
  | adcAD
  | adcAE
  | adcAH
  | adcAL
  | adcAIndHl
  | adcAA
  | subB
  | subC
  | subD
  | subE
  | subH
  | subL
  | subIndHl
  | subA
  | sbcAB
  | sbcAC
  | sbcAD
  | sbcAE
  | sbcAH
  | sbcAL
  | sbcAIndHl
  | sbcAA
  | andB
  | andC
  | andD
  | andE
  | andH
  | andL
  | andIndHl
  | andA
  | xorB
  | xorC
  | xorD
  | xorE
  | xorH
  | xorL
  | xorIndHl
  | xorA
  | orB
  | orC
  | orD
  | orE
  | orH
  | orL
  | orIndHl
  | orA
  | cpB
  | cpC
  | cpD
  | cpE
  | cpH
  | cpL
  | cpIndHl
  | cpA
  | retNz
  | popBc
  | pushBc
  | rst00h
  | retZ
  | ret
  | rst08h
  | retNc
  | popDe
  | undefinedD3
  | pushDe
  | rst10h
  | retC
  | reti
  | undefinedDb
  | undefinedDd
  | rst18h
  | popHl
  | ldIndCA
  | undefinedE3
  | undefinedE4
  | pushHl
  | rst20h
  | jpHl
  | undefinedEb
  | undefinedEc
  | undefinedEd
  | rst28h
  | popAf
  | ldAIndC
  | di
  | undefinedF4
  | pushAf
  | rst30h
  | ldSpHl
  | ei
  | undefinedFc
  | undefinedFd
  | rst38h
  -- the extended table, 0xCB 0x00 to 0xCB 0xFF
  | rlcB
  | rlcC
  | rlcD
  | rlcE
  | rlcH
  | rlcL
  | rlcIndHl
  | rlcA
  | rrcB
  | rrcC
  | rrcD
  | rrcE
  | rrcH
  | rrcL
  | rrcIndHl
  | rrcA
  | rlB
  | rlC
  | rlD
  | rlE
  | rlH
  | rlL
  | rlIndHl
  | rlA
  | rrB
  | rrC
  | rrD
  | rrE
  | rrH
  | rrL
  | rrIndHl
  | rrA
  | slaB
  | slaC
  | slaD
  | slaE
  | slaH
  | slaL
  | slaIndHl
  | slaA
  | sraB
  | sraC
  | sraD
  | sraE
  | sraH
  | sraL
  | sraIndHl
  | sraA
  | swapB
  | swapC
  | swapD
  | swapE
  | swapH
  | swapL
  | swapIndHl
  | swapA
  | srlB
  | srlC
  | srlD
  | srlE
  | srlH
  | srlL
  | srlIndHl
  | srlA
  | bit0B
  | bit0C
  | bit0D
  | bit0E
  | bit0H
  | bit0L
  | bit0IndHl
  | bit0A
  | bit1B
  | bit1C
  | bit1D
  | bit1E
  | bit1H
  | bit1L
  | bit1IndHl
  | bit1A
  | bit2B
  | bit2C
  | bit2D
  | bit2E
  | bit2H
  | bit2L
  | bit2IndHl
  | bit2A
  | bit3B
  | bit3C
  | bit3D
  | bit3E
  | bit3H
  | bit3L
  | bit3IndHl
  | bit3A
  | bit4B
  | bit4C
  | bit4D
  | bit4E
  | bit4H
  | bit4L
  | bit4IndHl
  | bit4A
  | bit5B
  | bit5C
  | bit5D
  | bit5E
  | bit5H
  | bit5L
  | bit5IndHl
  | bit5A
  | bit6B
  | bit6C
  | bit6D
  | bit6E
  | bit6H
  | bit6L
  | bit6IndHl
  | bit6A
  | bit7B
  | bit7C
  | bit7D
  | bit7E
  | bit7H
  | bit7L
  | bit7IndHl
  | bit7A
  | res0B
  | res0C
  | res0D
  | res0E
  | res0H
  | res0L
  | res0IndHl
  | res0A
  | res1B
  | res1C
  | res1D
  | res1E
  | res1H
  | res1L
  | res1IndHl
  | res1A
  | res2B
  | res2C
  | res2D
  | res2E
  | res2H
  | res2L
  | res2IndHl
  | res2A
  | res3B
  | res3C
  | res3D
  | res3E
  | res3H
  | res3L
  | res3IndHl
  | res3A
  | res4B
  | res4C
  | res4D
  | res4E
  | res4H
  | res4L
  | res4IndHl
  | res4A
  | res5B
  | res5C
  | res5D
  | res5E
  | res5H
  | res5L
  | res5IndHl
  | res5A
  | res6B
  | res6C
  | res6D
  | res6E
  | res6H
  | res6L
  | res6IndHl
  | res6A
  | res7B
  | res7C
  | res7D
  | res7E
  | res7H
  | res7L
  | res7IndHl
  | res7A
  | set0B
  | set0C
  | set0D
  | set0E
  | set0H
  | set0L
  | set0IndHl
  | set0A
  | set1B
  | set1C
  | set1D
  | set1E
  | set1H
  | set1L
  | set1IndHl
  | set1A
  | set2B
  | set2C
  | set2D
  | set2E
  | set2H
  | set2L
  | set2IndHl
  | set2A
  | set3B
  | set3C
  | set3D
  | set3E
  | set3H
  | set3L
  | set3IndHl
  | set3A
  | set4B
  | set4C
  | set4D
  | set4E
  | set4H
  | set4L
  | set4IndHl
  | set4A
  | set5B
  | set5C
  | set5D
  | set5E
  | set5H
  | set5L
  | set5IndHl
  | set5A
  | set6B
  | set6C
  | set6D
  | set6E
  | set6H
  | set6L
  | set6IndHl
  | set6A
  | set7B
  | set7C
  | set7D
  | set7E
  | set7H
  | set7L
  | set7IndHl
  | set7A
deriving DecidableEq, Repr

end Sys2Proof
end

