-- ==== Sys2Proof/WellFormed.lean ====
section
/-! DEFINITION. Which terms of `Instr` are instructions that bytes can spell as themselves. Every operand's type is the width
its field has, so no operand can be out of range; the one check left is the prefix. -/

namespace Sys2Proof

/-- `prefixCb` is "not an instruction of its own" (46_system.md R255): the prefix byte "never executes alone" and the byte after it
is "always an extended opcode" (30_encoding.md R71, R85), so the two bytes 0xCB xop spell the extended operation. Every other
constructor is the instruction its own bytes spell (log 21). -/
def WellFormed : Instr → Bool
  | .prefixCb _ => false
  | _ => true

end Sys2Proof
end

