-- ==== Sys2Proof/Decode.lean ====
section
/-! DEFINITION. From bytes to instructions and back (30_encoding.md). `primaryTable` is the grid of R81 row by row; the families by
pattern (R81's second table, R73) give the extended table and let a statement speak of every register of a family at once;
`encode` is written from the table again, opcode by opcode, so that the round trip says something. All opcode values but 0x3E
and five unbound ones are the spec's own adoption of the commonly documented SM83 map (D1 to D5; log 8). -/

namespace Sys2Proof

/-! ## Bytes and fields -/

/-- The low byte of a 16-bit value. -/
def loByte (w : Word) : Byte := w.extractLsb' 0 8

/-- The high byte of a 16-bit value. -/
def hiByte (w : Word) : Byte := w.extractLsb' 8 8

/-- `hi:lo`, that is `(hi << 8) | lo` (00_scope.md section 6.1; the byte order of 20_memory.md R52). -/
def ofBytes (hi lo : Byte) : Word := hi ++ lo

/-- The 3-bit register code of 30_encoding.md R74: 0=B 1=C 2=D 3=E 4=H 5=L 6=(HL) 7=A. -/
def slotOfCode : Nat → Slot
  | 0 => .b
  | 1 => .c
  | 2 => .d
  | 3 => .e
  | 4 => .h
  | 5 => .l
  | 6 => .indHl
  | _ => .a

/-- The code of a slot (30_encoding.md R74). -/
def Slot.code : Slot → Nat
  | .b => 0
  | .c => 1
  | .d => 2
  | .e => 3
  | .h => 4
  | .l => 5
  | .indHl => 6
  | .a => 7

/-- The register operand `x[i]` as a slot (30_encoding.md R75, `i != 6`). -/
def Reg.slot : Reg → Slot
  | .b => .b
  | .c => .c
  | .d => .d
  | .e => .e
  | .h => .h
  | .l => .l
  | .a => .a

/-- The operation a 3-bit selector names in the first block of the extended table (30_encoding.md R73, `s` = 0 to 7). -/
def rotOfCode : Nat → RotOp
  | 0 => .rlc
  | 1 => .rrc
  | 2 => .rl
  | 3 => .rr
  | 4 => .sla
  | 5 => .sra
  | 6 => .swap
  | _ => .srl

/-- The selector of a rotate or shift (30_encoding.md R73). -/
def RotOp.code : RotOp → Nat
  | .rlc => 0
  | .rrc => 1
  | .rl => 2
  | .rr => 3
  | .sla => 4
  | .sra => 5
  | .swap => 6
  | .srl => 7

/-- The `y` field of an operation on A (30_encoding.md R81: ADD, ADC, SUB, SBC, AND, XOR, OR, CP). -/
def AluOp.code : AluOp → Nat
  | .add => 0
  | .adc => 1
  | .sub => 2
  | .sbc => 3
  | .and => 4
  | .xor => 5
  | .or => 6
  | .cp => 7

/-- The pair code `p` of `rp` (30_encoding.md R76). -/
def Pair.code : Pair → Nat
  | .bc => 0
  | .de => 1
  | .hl => 2
  | .sp => 3

/-- The pair code `p` of `rp2` (30_encoding.md R76). -/
def StackPair.code : StackPair → Nat
  | .bc => 0
  | .de => 1
  | .hl => 2
  | .af => 3

/-- The condition code `cc` (30_encoding.md R80). -/
def Cond.code : Cond → Nat
  | .nz => 0
  | .z => 1
  | .nc => 2
  | .c => 3

/-! ## The families by pattern -/

/-- `01yyyzzz`: LD x[y],x[z] (R100), LD x[y],(HL) (R101), LD (HL),x[z] (R102); the place of LD (HL),(HL) is HALT (R252). -/
def ldOf : Slot → Slot → Instr
  | .b, .b => .ldBB
  | .b, .c => .ldBC
  | .b, .d => .ldBD
  | .b, .e => .ldBE
  | .b, .h => .ldBH
  | .b, .l => .ldBL
  | .b, .indHl => .ldBIndHl
  | .b, .a => .ldBA
  | .c, .b => .ldCB
  | .c, .c => .ldCC
  | .c, .d => .ldCD
  | .c, .e => .ldCE
  | .c, .h => .ldCH
  | .c, .l => .ldCL
  | .c, .indHl => .ldCIndHl
  | .c, .a => .ldCA
  | .d, .b => .ldDB
  | .d, .c => .ldDC
  | .d, .d => .ldDD
  | .d, .e => .ldDE
  | .d, .h => .ldDH
  | .d, .l => .ldDL
  | .d, .indHl => .ldDIndHl
  | .d, .a => .ldDA
  | .e, .b => .ldEB
  | .e, .c => .ldEC
  | .e, .d => .ldED
  | .e, .e => .ldEE
  | .e, .h => .ldEH
  | .e, .l => .ldEL
  | .e, .indHl => .ldEIndHl
  | .e, .a => .ldEA
  | .h, .b => .ldHB
  | .h, .c => .ldHC
  | .h, .d => .ldHD
  | .h, .e => .ldHE
  | .h, .h => .ldHH
  | .h, .l => .ldHL
  | .h, .indHl => .ldHIndHl
  | .h, .a => .ldHA
  | .l, .b => .ldLB
  | .l, .c => .ldLC
  | .l, .d => .ldLD
  | .l, .e => .ldLE
  | .l, .h => .ldLH
  | .l, .l => .ldLL
  | .l, .indHl => .ldLIndHl
  | .l, .a => .ldLA
  | .indHl, .b => .ldIndHlB
  | .indHl, .c => .ldIndHlC
  | .indHl, .d => .ldIndHlD
  | .indHl, .e => .ldIndHlE
  | .indHl, .h => .ldIndHlH
  | .indHl, .l => .ldIndHlL
  | .indHl, .indHl => .halt
  | .indHl, .a => .ldIndHlA
  | .a, .b => .ldAB
  | .a, .c => .ldAC
  | .a, .d => .ldAD
  | .a, .e => .ldAE
  | .a, .h => .ldAH
  | .a, .l => .ldAL
  | .a, .indHl => .ldAIndHl
  | .a, .a => .ldAA

/-- `10yyyzzz`: the eight operations on A with a slot operand (42_alu_8bit.md R145 to R159). -/
def aluOf : AluOp → Slot → Instr
  | .add, .b => .addAB
  | .add, .c => .addAC
  | .add, .d => .addAD
  | .add, .e => .addAE
  | .add, .h => .addAH
  | .add, .l => .addAL
  | .add, .indHl => .addAIndHl
  | .add, .a => .addAA
  | .adc, .b => .adcAB
  | .adc, .c => .adcAC
  | .adc, .d => .adcAD
  | .adc, .e => .adcAE
  | .adc, .h => .adcAH
  | .adc, .l => .adcAL
  | .adc, .indHl => .adcAIndHl
  | .adc, .a => .adcAA
  | .sub, .b => .subB
  | .sub, .c => .subC
  | .sub, .d => .subD
  | .sub, .e => .subE
  | .sub, .h => .subH
  | .sub, .l => .subL
  | .sub, .indHl => .subIndHl
  | .sub, .a => .subA
  | .sbc, .b => .sbcAB
  | .sbc, .c => .sbcAC
  | .sbc, .d => .sbcAD
  | .sbc, .e => .sbcAE
  | .sbc, .h => .sbcAH
  | .sbc, .l => .sbcAL
  | .sbc, .indHl => .sbcAIndHl
  | .sbc, .a => .sbcAA
  | .and, .b => .andB
  | .and, .c => .andC
  | .and, .d => .andD
  | .and, .e => .andE
  | .and, .h => .andH
  | .and, .l => .andL
  | .and, .indHl => .andIndHl
  | .and, .a => .andA
  | .xor, .b => .xorB
  | .xor, .c => .xorC
  | .xor, .d => .xorD
  | .xor, .e => .xorE
  | .xor, .h => .xorH
  | .xor, .l => .xorL
  | .xor, .indHl => .xorIndHl
  | .xor, .a => .xorA
  | .or, .b => .orB
  | .or, .c => .orC
  | .or, .d => .orD
  | .or, .e => .orE
  | .or, .h => .orH
  | .or, .l => .orL
  | .or, .indHl => .orIndHl
  | .or, .a => .orA
  | .cp, .b => .cpB
  | .cp, .c => .cpC
  | .cp, .d => .cpD
  | .cp, .e => .cpE
  | .cp, .h => .cpH
  | .cp, .l => .cpL
  | .cp, .indHl => .cpIndHl
  | .cp, .a => .cpA

/-- `11yyy110`: the eight operations on A with `d8` (42_alu_8bit.md R146 to R160). -/
def aluImmOf : AluOp → Byte → Instr
  | .add, v => .addAD8 v
  | .adc, v => .adcAD8 v
  | .sub, v => .subD8 v
  | .sbc, v => .sbcAD8 v
  | .and, v => .andD8 v
  | .xor, v => .xorD8 v
  | .or, v => .orD8 v
  | .cp, v => .cpD8 v

/-- `00yyy110`: LD x[y],d8 (R103) and LD (HL),d8 (R104). -/
def ldImmOf : Slot → Byte → Instr
  | .b, v => .ldBD8 v
  | .c, v => .ldCD8 v
  | .d, v => .ldDD8 v
  | .e, v => .ldED8 v
  | .h, v => .ldHD8 v
  | .l, v => .ldLD8 v
  | .indHl, v => .ldIndHlD8 v
  | .a, v => .ldAD8 v

/-- `00yyy100`: INC x[y] (R161) and INC (HL) (R162). -/
def incOf : Slot → Instr
  | .b => .incB
  | .c => .incC
  | .d => .incD
  | .e => .incE
  | .h => .incH
  | .l => .incL
  | .indHl => .incIndHl
  | .a => .incA

/-- `00yyy101`: DEC x[y] (R163) and DEC (HL) (R164). -/
def decOf : Slot → Instr
  | .b => .decB
  | .c => .decC
  | .d => .decD
  | .e => .decE
  | .h => .decH
  | .l => .decL
  | .indHl => .decIndHl
  | .a => .decA

/-- `00pp0001`: LD rp[p],d16 (R130). -/
def ldPairOf : Pair → Word → Instr
  | .bc, v => .ldBcD16 v
  | .de, v => .ldDeD16 v
  | .hl, v => .ldHlD16 v
  | .sp, v => .ldSpD16 v

/-- `00pp1001`: ADD HL,rp[p] (R182). -/
def addHlOf : Pair → Instr
  | .bc => .addHlBc
  | .de => .addHlDe
  | .hl => .addHlHl
  | .sp => .addHlSp

/-- `00pp0011`: INC rp[p] (R183). -/
def incPairOf : Pair → Instr
  | .bc => .incBc
  | .de => .incDe
  | .hl => .incHl
  | .sp => .incSp

/-- `00pp1011`: DEC rp[p] (R184). -/
def decPairOf : Pair → Instr
  | .bc => .decBc
  | .de => .decDe
  | .hl => .decHl
  | .sp => .decSp

/-- `11pp0101`: PUSH rp2[p] (R234). -/
def pushOf : StackPair → Instr
  | .bc => .pushBc
  | .de => .pushDe
  | .hl => .pushHl
  | .af => .pushAf

/-- `11pp0001`: POP rp2[p] (R235) and POP AF (R236). -/
def popOf : StackPair → Instr
  | .bc => .popBc
  | .de => .popDe
  | .hl => .popHl
  | .af => .popAf

/-- `001cc000`: JR cc,e8 (R227). -/
def jrCcOf : Cond → Byte → Instr
  | .nz, v => .jrNzE8 v
  | .z, v => .jrZE8 v
  | .nc, v => .jrNcE8 v
  | .c, v => .jrCE8 v

/-- `110cc010`: JP cc,a16 (R224). -/
def jpCcOf : Cond → Word → Instr
  | .nz, v => .jpNzA16 v
  | .z, v => .jpZA16 v
  | .nc, v => .jpNcA16 v
  | .c, v => .jpCA16 v

/-- `110cc100`: CALL cc,a16 (R229). -/
def callCcOf : Cond → Word → Instr
  | .nz, v => .callNzA16 v
  | .z, v => .callZA16 v
  | .nc, v => .callNcA16 v
  | .c, v => .callCA16 v

/-- `110cc000`: RET cc (R233). -/
def retCcOf : Cond → Instr
  | .nz => .retNz
  | .z => .retZ
  | .nc => .retNc
  | .c => .retC

/-- `11ttt111`: RST 8*t (R232). -/
def rstOf : Fin 8 → Instr
  | 0 => .rst00h
  | 1 => .rst08h
  | 2 => .rst10h
  | 3 => .rst18h
  | 4 => .rst20h
  | 5 => .rst28h
  | 6 => .rst30h
  | 7 => .rst38h

/-- Extended `00ssszzz` with `s` = 0 to 7: the rotates, shifts and SWAP (44_rotate_shift_bit.md R194 to R201). -/
def rotOf : RotOp → Slot → Instr
  | .rlc, .b => .rlcB
  | .rlc, .c => .rlcC
  | .rlc, .d => .rlcD
  | .rlc, .e => .rlcE
  | .rlc, .h => .rlcH
  | .rlc, .l => .rlcL
  | .rlc, .indHl => .rlcIndHl
  | .rlc, .a => .rlcA
  | .rrc, .b => .rrcB
  | .rrc, .c => .rrcC
  | .rrc, .d => .rrcD
  | .rrc, .e => .rrcE
  | .rrc, .h => .rrcH
  | .rrc, .l => .rrcL
  | .rrc, .indHl => .rrcIndHl
  | .rrc, .a => .rrcA
  | .rl, .b => .rlB
  | .rl, .c => .rlC
  | .rl, .d => .rlD
  | .rl, .e => .rlE
  | .rl, .h => .rlH
  | .rl, .l => .rlL
  | .rl, .indHl => .rlIndHl
  | .rl, .a => .rlA
  | .rr, .b => .rrB
  | .rr, .c => .rrC
  | .rr, .d => .rrD
  | .rr, .e => .rrE
  | .rr, .h => .rrH
  | .rr, .l => .rrL
  | .rr, .indHl => .rrIndHl
  | .rr, .a => .rrA
  | .sla, .b => .slaB
  | .sla, .c => .slaC
  | .sla, .d => .slaD
  | .sla, .e => .slaE
  | .sla, .h => .slaH
  | .sla, .l => .slaL
  | .sla, .indHl => .slaIndHl
  | .sla, .a => .slaA
  | .sra, .b => .sraB
  | .sra, .c => .sraC
  | .sra, .d => .sraD
  | .sra, .e => .sraE
  | .sra, .h => .sraH
  | .sra, .l => .sraL
  | .sra, .indHl => .sraIndHl
  | .sra, .a => .sraA
  | .swap, .b => .swapB
  | .swap, .c => .swapC
  | .swap, .d => .swapD
  | .swap, .e => .swapE
  | .swap, .h => .swapH
  | .swap, .l => .swapL
  | .swap, .indHl => .swapIndHl
  | .swap, .a => .swapA
  | .srl, .b => .srlB
  | .srl, .c => .srlC
  | .srl, .d => .srlD
  | .srl, .e => .srlE
  | .srl, .h => .srlH
  | .srl, .l => .srlL
  | .srl, .indHl => .srlIndHl
  | .srl, .a => .srlA

/-- Extended `01bbbzzz`: BIT b,s (44_rotate_shift_bit.md R202). -/
def bitOf : Fin 8 → Slot → Instr
  | 0, .b => .bit0B
  | 0, .c => .bit0C
  | 0, .d => .bit0D
  | 0, .e => .bit0E
  | 0, .h => .bit0H
  | 0, .l => .bit0L
  | 0, .indHl => .bit0IndHl
  | 0, .a => .bit0A
  | 1, .b => .bit1B
  | 1, .c => .bit1C
  | 1, .d => .bit1D
  | 1, .e => .bit1E
  | 1, .h => .bit1H
  | 1, .l => .bit1L
  | 1, .indHl => .bit1IndHl
  | 1, .a => .bit1A
  | 2, .b => .bit2B
  | 2, .c => .bit2C
  | 2, .d => .bit2D
  | 2, .e => .bit2E
  | 2, .h => .bit2H
  | 2, .l => .bit2L
  | 2, .indHl => .bit2IndHl
  | 2, .a => .bit2A
  | 3, .b => .bit3B
  | 3, .c => .bit3C
  | 3, .d => .bit3D
  | 3, .e => .bit3E
  | 3, .h => .bit3H
  | 3, .l => .bit3L
  | 3, .indHl => .bit3IndHl
  | 3, .a => .bit3A
  | 4, .b => .bit4B
  | 4, .c => .bit4C
  | 4, .d => .bit4D
  | 4, .e => .bit4E
  | 4, .h => .bit4H
  | 4, .l => .bit4L
  | 4, .indHl => .bit4IndHl
  | 4, .a => .bit4A
  | 5, .b => .bit5B
  | 5, .c => .bit5C
  | 5, .d => .bit5D
  | 5, .e => .bit5E
  | 5, .h => .bit5H
  | 5, .l => .bit5L
  | 5, .indHl => .bit5IndHl
  | 5, .a => .bit5A
  | 6, .b => .bit6B
  | 6, .c => .bit6C
  | 6, .d => .bit6D
  | 6, .e => .bit6E
  | 6, .h => .bit6H
  | 6, .l => .bit6L
  | 6, .indHl => .bit6IndHl
  | 6, .a => .bit6A
  | 7, .b => .bit7B
  | 7, .c => .bit7C
  | 7, .d => .bit7D
  | 7, .e => .bit7E
  | 7, .h => .bit7H
  | 7, .l => .bit7L
  | 7, .indHl => .bit7IndHl
  | 7, .a => .bit7A

/-- Extended `10bbbzzz`: RES b,s (44_rotate_shift_bit.md R203). -/
def resOf : Fin 8 → Slot → Instr
  | 0, .b => .res0B
  | 0, .c => .res0C
  | 0, .d => .res0D
  | 0, .e => .res0E
  | 0, .h => .res0H
  | 0, .l => .res0L
  | 0, .indHl => .res0IndHl
  | 0, .a => .res0A
  | 1, .b => .res1B
  | 1, .c => .res1C
  | 1, .d => .res1D
  | 1, .e => .res1E
  | 1, .h => .res1H
  | 1, .l => .res1L
  | 1, .indHl => .res1IndHl
  | 1, .a => .res1A
  | 2, .b => .res2B
  | 2, .c => .res2C
  | 2, .d => .res2D
  | 2, .e => .res2E
  | 2, .h => .res2H
  | 2, .l => .res2L
  | 2, .indHl => .res2IndHl
  | 2, .a => .res2A
  | 3, .b => .res3B
  | 3, .c => .res3C
  | 3, .d => .res3D
  | 3, .e => .res3E
  | 3, .h => .res3H
  | 3, .l => .res3L
  | 3, .indHl => .res3IndHl
  | 3, .a => .res3A
  | 4, .b => .res4B
  | 4, .c => .res4C
  | 4, .d => .res4D
  | 4, .e => .res4E
  | 4, .h => .res4H
  | 4, .l => .res4L
  | 4, .indHl => .res4IndHl
  | 4, .a => .res4A
  | 5, .b => .res5B
  | 5, .c => .res5C
  | 5, .d => .res5D
  | 5, .e => .res5E
  | 5, .h => .res5H
  | 5, .l => .res5L
  | 5, .indHl => .res5IndHl
  | 5, .a => .res5A
  | 6, .b => .res6B
  | 6, .c => .res6C
  | 6, .d => .res6D
  | 6, .e => .res6E
  | 6, .h => .res6H
  | 6, .l => .res6L
  | 6, .indHl => .res6IndHl
  | 6, .a => .res6A
  | 7, .b => .res7B
  | 7, .c => .res7C
  | 7, .d => .res7D
  | 7, .e => .res7E
  | 7, .h => .res7H
  | 7, .l => .res7L
  | 7, .indHl => .res7IndHl
  | 7, .a => .res7A

/-- Extended `11bbbzzz`: SET b,s (44_rotate_shift_bit.md R204). -/
def setOf : Fin 8 → Slot → Instr
  | 0, .b => .set0B
  | 0, .c => .set0C
  | 0, .d => .set0D
  | 0, .e => .set0E
  | 0, .h => .set0H
  | 0, .l => .set0L
  | 0, .indHl => .set0IndHl
  | 0, .a => .set0A
  | 1, .b => .set1B
  | 1, .c => .set1C
  | 1, .d => .set1D
  | 1, .e => .set1E
  | 1, .h => .set1H
  | 1, .l => .set1L
  | 1, .indHl => .set1IndHl
  | 1, .a => .set1A
  | 2, .b => .set2B
  | 2, .c => .set2C
  | 2, .d => .set2D
  | 2, .e => .set2E
  | 2, .h => .set2H
  | 2, .l => .set2L
  | 2, .indHl => .set2IndHl
  | 2, .a => .set2A
  | 3, .b => .set3B
  | 3, .c => .set3C
  | 3, .d => .set3D
  | 3, .e => .set3E
  | 3, .h => .set3H
  | 3, .l => .set3L
  | 3, .indHl => .set3IndHl
  | 3, .a => .set3A
  | 4, .b => .set4B
  | 4, .c => .set4C
  | 4, .d => .set4D
  | 4, .e => .set4E
  | 4, .h => .set4H
  | 4, .l => .set4L
  | 4, .indHl => .set4IndHl
  | 4, .a => .set4A
  | 5, .b => .set5B
  | 5, .c => .set5C
  | 5, .d => .set5D
  | 5, .e => .set5E
  | 5, .h => .set5H
  | 5, .l => .set5L
  | 5, .indHl => .set5IndHl
  | 5, .a => .set5A
  | 6, .b => .set6B
  | 6, .c => .set6C
  | 6, .d => .set6D
  | 6, .e => .set6E
  | 6, .h => .set6H
  | 6, .l => .set6L
  | 6, .indHl => .set6IndHl
  | 6, .a => .set6A
  | 7, .b => .set7B
  | 7, .c => .set7C
  | 7, .d => .set7D
  | 7, .e => .set7E
  | 7, .h => .set7H
  | 7, .l => .set7L
  | 7, .indHl => .set7IndHl
  | 7, .a => .set7A

/-! ## The primary table -/

/-- The primary table of 30_encoding.md R81, one list a row (the high nibble), one entry a column (the low nibble), with the operand
bytes each cell's format takes: `b` the byte at PC + 1, `w` the little-endian word at PC + 1 (R77, R78). The cell 0xCB is the
escape, with the byte after it. -/
def primaryTable (b : Byte) (w : Word) : List (List Instr) :=
  [[.nop, .ldBcD16 w, .ldIndBcA, .incBc, .incB, .decB, .ldBD8 b, .rlcAcc,
    .ldIndA16Sp w, .addHlBc, .ldAIndBc, .decBc, .incC, .decC, .ldCD8 b, .rrcAcc],
   [.stop, .ldDeD16 w, .ldIndDeA, .incDe, .incD, .decD, .ldDD8 b, .rlAcc,
    .jrE8 b, .addHlDe, .ldAIndDe, .decDe, .incE, .decE, .ldED8 b, .rrAcc],
   [.jrNzE8 b, .ldHlD16 w, .ldIndHlIncA, .incHl, .incH, .decH, .ldHD8 b, .daa,
    .jrZE8 b, .addHlHl, .ldAIndHlInc, .decHl, .incL, .decL, .ldLD8 b, .cplAcc],
   [.jrNcE8 b, .ldSpD16 w, .ldIndHlDecA, .incSp, .incIndHl, .decIndHl, .ldIndHlD8 b, .scf,
    .jrCE8 b, .addHlSp, .ldAIndHlDec, .decSp, .incA, .decA, .ldAD8 b, .ccf],
   [.ldBB, .ldBC, .ldBD, .ldBE, .ldBH, .ldBL, .ldBIndHl, .ldBA,
    .ldCB, .ldCC, .ldCD, .ldCE, .ldCH, .ldCL, .ldCIndHl, .ldCA],
   [.ldDB, .ldDC, .ldDD, .ldDE, .ldDH, .ldDL, .ldDIndHl, .ldDA,
    .ldEB, .ldEC, .ldED, .ldEE, .ldEH, .ldEL, .ldEIndHl, .ldEA],
   [.ldHB, .ldHC, .ldHD, .ldHE, .ldHH, .ldHL, .ldHIndHl, .ldHA,
    .ldLB, .ldLC, .ldLD, .ldLE, .ldLH, .ldLL, .ldLIndHl, .ldLA],
   [.ldIndHlB, .ldIndHlC, .ldIndHlD, .ldIndHlE, .ldIndHlH, .ldIndHlL, .halt, .ldIndHlA,
    .ldAB, .ldAC, .ldAD, .ldAE, .ldAH, .ldAL, .ldAIndHl, .ldAA],
   [.addAB, .addAC, .addAD, .addAE, .addAH, .addAL, .addAIndHl, .addAA,
    .adcAB, .adcAC, .adcAD, .adcAE, .adcAH, .adcAL, .adcAIndHl, .adcAA],
   [.subB, .subC, .subD, .subE, .subH, .subL, .subIndHl, .subA,
    .sbcAB, .sbcAC, .sbcAD, .sbcAE, .sbcAH, .sbcAL, .sbcAIndHl, .sbcAA],
   [.andB, .andC, .andD, .andE, .andH, .andL, .andIndHl, .andA,
    .xorB, .xorC, .xorD, .xorE, .xorH, .xorL, .xorIndHl, .xorA],
   [.orB, .orC, .orD, .orE, .orH, .orL, .orIndHl, .orA,
    .cpB, .cpC, .cpD, .cpE, .cpH, .cpL, .cpIndHl, .cpA],
   [.retNz, .popBc, .jpNzA16 w, .jpA16 w, .callNzA16 w, .pushBc, .addAD8 b, .rst00h,
    .retZ, .ret, .jpZA16 w, .prefixCb b, .callZA16 w, .callA16 w, .adcAD8 b, .rst08h],
   [.retNc, .popDe, .jpNcA16 w, .undefinedD3, .callNcA16 w, .pushDe, .subD8 b, .rst10h,
    .retC, .reti, .jpCA16 w, .undefinedDb, .callCA16 w, .undefinedDd, .sbcAD8 b, .rst18h],
   [.ldhIndA8A b, .popHl, .ldIndCA, .undefinedE3, .undefinedE4, .pushHl, .andD8 b, .rst20h,
    .addSpE8 b, .jpHl, .ldIndA16A w, .undefinedEb, .undefinedEc, .undefinedEd, .xorD8 b, .rst28h],
   [.ldhAIndA8 b, .popAf, .ldAIndC, .di, .undefinedF4, .pushAf, .orD8 b, .rst30h,
    .ldHlSpE8 b, .ldSpHl, .ldAIndA16 w, .ei, .undefinedFc, .undefinedFd, .cpD8 b, .rst38h]]

/-- Primary decode of a bound or unbound opcode other than the prefix: the cell of R81's grid in the opcode's row and column. -/
def decodePrimary (op b : Byte) (w : Word) : Instr :=
  ((primaryTable b w).getD (op.toNat / 16) []).getD (op.toNat % 16) .nop

/-- Secondary decode (30_encoding.md R73): operand slot `z = xop[2:0]`, and the operation from `xop[7:3]`: eight rotates and shifts, eight
bit tests, eight bit resets, eight bit sets. The table is total (60_exceptions.md R263). -/
def decodeExtended (xop : Byte) : Instr :=
  let z := slotOfCode (xop.toNat % 8)
  let y : Fin 8 := ⟨xop.toNat / 8 % 8, Nat.mod_lt _ (by decide)⟩
  match xop.toNat / 64 with
  | 0 => rotOf (rotOfCode y.val) z
  | 1 => bitOf y z
  | 2 => resOf y z
  | _ => setOf y z

/-! ## Decoding -/

/-- The opcodes of the two-byte formats OP_D8, OP_E8, OP_A8 and of the prefix (30_encoding.md R71). -/
def twoByteOpcodes : List Byte :=
  [0x06, 0x0E, 0x16, 0x1E, 0x26, 0x2E, 0x36, 0x3E, 0xC6, 0xCE, 0xD6, 0xDE, 0xE6, 0xEE, 0xF6, 0xFE,
   0x18, 0x20, 0x28, 0x30, 0x38, 0xE8, 0xF8, 0xE0, 0xF0, 0xCB]

/-- The opcodes of the three-byte formats OP_D16 and OP_A16 (30_encoding.md R71). -/
def threeByteOpcodes : List Byte :=
  [0x01, 0x11, 0x21, 0x31, 0x08, 0xC2, 0xC3, 0xC4, 0xCA, 0xCC, 0xCD, 0xD2, 0xD4, 0xDA, 0xDC, 0xEA, 0xFA]

/-- The length in bytes, from the first byte alone (30_encoding.md R71). An unbound opcode is the one byte that is fetched. -/
def instrLength (op : Byte) : Nat :=
  if op ∈ twoByteOpcodes then 2 else if op ∈ threeByteOpcodes then 3 else 1

/-- The instruction that three bytes at PC, PC + 1, PC + 2 begin with (30_encoding.md R70): total, since both tables are. -/
def decodeBytes (b0 b1 b2 : Byte) : Instr :=
  if b0 = 0xCB then decodeExtended b1 else decodePrimary b0 b1 (ofBytes b2 b1)

/-- Why a list of bytes holds no instruction. -/
inductive DecodeError where
  /-- There is no byte at all. -/
  | empty
  /-- The list ends before the length that the first byte calls for. -/
  | truncated (op : Byte)
deriving DecidableEq, Repr

/-- The first instruction of a list of bytes and the bytes after it. -/
def decode : List Byte → Except DecodeError (Instr × List Byte)
  | [] => .error .empty
  | op :: rest =>
    if rest.length + 1 < instrLength op then .error (.truncated op)
    else .ok (decodeBytes op (rest.getD 0 0) (rest.getD 1 0), rest.drop (instrLength op - 1))

/-- The three bytes that a word of spec/opcode_table.json stands for, zeros above `nbits`. A one-byte row is that byte. The table writes an
extended row as the number 0xCBnn whose HIGH byte is the first byte ("this is a way of writing two bytes, not a little-endian
word", 30_encoding.md R86); a word whose high byte is not the prefix is laid out first byte lowest (log 22). -/
def tableBytes (nbits w : Nat) : List Byte :=
  if nbits ≤ 8 then [BitVec.ofNat 8 w, 0, 0]
  else if w / 256 = 0xCB then [0xCB, BitVec.ofNat 8 w, 0]
  else [BitVec.ofNat 8 w, BitVec.ofNat 8 (w / 256), BitVec.ofNat 8 (w / 65536)]

/-- The instruction the decoder reads from a word of spec/opcode_table.json. -/
def decodeTableWord (nbits w : Nat) : Option Instr :=
  match decode (tableBytes nbits w) with
  | .ok (i, _) => some i
  | .error _ => none

/-! ## Encoding -/

/-- The bytes of an instruction, first byte first: the opcode value of its row of spec/opcode_table.json, then its operand
(30_encoding.md R71, R77, R78). -/
def encode : Instr → List Byte
  | .nop => [0x00]
  | .ldBcD16 w => [0x01, loByte w, hiByte w]
  | .ldIndBcA => [0x02]
  | .incBc => [0x03]
  | .incB => [0x04]
  | .decB => [0x05]
  | .ldBD8 b => [0x06, b]
  | .rlcAcc => [0x07]
  | .ldIndA16Sp w => [0x08, loByte w, hiByte w]
  | .addHlBc => [0x09]
  | .ldAIndBc => [0x0A]
  | .decBc => [0x0B]
  | .incC => [0x0C]
  | .decC => [0x0D]
  | .ldCD8 b => [0x0E, b]
  | .rrcAcc => [0x0F]
  | .stop => [0x10]
  | .ldDeD16 w => [0x11, loByte w, hiByte w]
  | .ldIndDeA => [0x12]
  | .incDe => [0x13]
  | .incD => [0x14]
  | .decD => [0x15]
  | .ldDD8 b => [0x16, b]
  | .rlAcc => [0x17]
  | .jrE8 b => [0x18, b]
  | .addHlDe => [0x19]
  | .ldAIndDe => [0x1A]
  | .decDe => [0x1B]
  | .incE => [0x1C]
  | .decE => [0x1D]
  | .ldED8 b => [0x1E, b]
  | .rrAcc => [0x1F]
  | .jrNzE8 b => [0x20, b]
  | .ldHlD16 w => [0x21, loByte w, hiByte w]
  | .ldIndHlIncA => [0x22]
  | .incHl => [0x23]
  | .incH => [0x24]
  | .decH => [0x25]
  | .ldHD8 b => [0x26, b]
  | .daa => [0x27]
  | .jrZE8 b => [0x28, b]
  | .addHlHl => [0x29]
  | .ldAIndHlInc => [0x2A]
  | .decHl => [0x2B]
  | .incL => [0x2C]
  | .decL => [0x2D]
  | .ldLD8 b => [0x2E, b]
  | .cplAcc => [0x2F]
  | .jrNcE8 b => [0x30, b]
  | .ldSpD16 w => [0x31, loByte w, hiByte w]
  | .ldIndHlDecA => [0x32]
  | .incSp => [0x33]
  | .incIndHl => [0x34]
  | .decIndHl => [0x35]
  | .ldIndHlD8 b => [0x36, b]
  | .scf => [0x37]
  | .jrCE8 b => [0x38, b]
  | .addHlSp => [0x39]
  | .ldAIndHlDec => [0x3A]
  | .decSp => [0x3B]
  | .incA => [0x3C]
  | .decA => [0x3D]
  | .ldAD8 b => [0x3E, b]
  | .ccf => [0x3F]
  | .ldBB => [0x40]
  | .ldBC => [0x41]
  | .ldBD => [0x42]
  | .ldBE => [0x43]
  | .ldBH => [0x44]
  | .ldBL => [0x45]
  | .ldBIndHl => [0x46]
  | .ldBA => [0x47]
  | .ldCB => [0x48]
  | .ldCC => [0x49]
  | .ldCD => [0x4A]
  | .ldCE => [0x4B]
  | .ldCH => [0x4C]
  | .ldCL => [0x4D]
  | .ldCIndHl => [0x4E]
  | .ldCA => [0x4F]
  | .ldDB => [0x50]
  | .ldDC => [0x51]
  | .ldDD => [0x52]
  | .ldDE => [0x53]
  | .ldDH => [0x54]
  | .ldDL => [0x55]
  | .ldDIndHl => [0x56]
  | .ldDA => [0x57]
  | .ldEB => [0x58]
  | .ldEC => [0x59]
  | .ldED => [0x5A]
  | .ldEE => [0x5B]
  | .ldEH => [0x5C]
  | .ldEL => [0x5D]
  | .ldEIndHl => [0x5E]
  | .ldEA => [0x5F]
  | .ldHB => [0x60]
  | .ldHC => [0x61]
  | .ldHD => [0x62]
  | .ldHE => [0x63]
  | .ldHH => [0x64]
  | .ldHL => [0x65]
  | .ldHIndHl => [0x66]
  | .ldHA => [0x67]
  | .ldLB => [0x68]
  | .ldLC => [0x69]
  | .ldLD => [0x6A]
  | .ldLE => [0x6B]
  | .ldLH => [0x6C]
  | .ldLL => [0x6D]
  | .ldLIndHl => [0x6E]
  | .ldLA => [0x6F]
  | .ldIndHlB => [0x70]
  | .ldIndHlC => [0x71]
  | .ldIndHlD => [0x72]
  | .ldIndHlE => [0x73]
  | .ldIndHlH => [0x74]
  | .ldIndHlL => [0x75]
  | .halt => [0x76]
  | .ldIndHlA => [0x77]
  | .ldAB => [0x78]
  | .ldAC => [0x79]
  | .ldAD => [0x7A]
  | .ldAE => [0x7B]
  | .ldAH => [0x7C]
  | .ldAL => [0x7D]
  | .ldAIndHl => [0x7E]
  | .ldAA => [0x7F]
  | .addAB => [0x80]
  | .addAC => [0x81]
  | .addAD => [0x82]
  | .addAE => [0x83]
  | .addAH => [0x84]
  | .addAL => [0x85]
  | .addAIndHl => [0x86]
  | .addAA => [0x87]
  | .adcAB => [0x88]
  | .adcAC => [0x89]
  | .adcAD => [0x8A]
  | .adcAE => [0x8B]
  | .adcAH => [0x8C]
  | .adcAL => [0x8D]
  | .adcAIndHl => [0x8E]
  | .adcAA => [0x8F]
  | .subB => [0x90]
  | .subC => [0x91]
  | .subD => [0x92]
  | .subE => [0x93]
  | .subH => [0x94]
  | .subL => [0x95]
  | .subIndHl => [0x96]
  | .subA => [0x97]
  | .sbcAB => [0x98]
  | .sbcAC => [0x99]
  | .sbcAD => [0x9A]
  | .sbcAE => [0x9B]
  | .sbcAH => [0x9C]
  | .sbcAL => [0x9D]
  | .sbcAIndHl => [0x9E]
  | .sbcAA => [0x9F]
  | .andB => [0xA0]
  | .andC => [0xA1]
  | .andD => [0xA2]
  | .andE => [0xA3]
  | .andH => [0xA4]
  | .andL => [0xA5]
  | .andIndHl => [0xA6]
  | .andA => [0xA7]
  | .xorB => [0xA8]
  | .xorC => [0xA9]
  | .xorD => [0xAA]
  | .xorE => [0xAB]
  | .xorH => [0xAC]
  | .xorL => [0xAD]
  | .xorIndHl => [0xAE]
  | .xorA => [0xAF]
  | .orB => [0xB0]
  | .orC => [0xB1]
  | .orD => [0xB2]
  | .orE => [0xB3]
  | .orH => [0xB4]
  | .orL => [0xB5]
  | .orIndHl => [0xB6]
  | .orA => [0xB7]
  | .cpB => [0xB8]
  | .cpC => [0xB9]
  | .cpD => [0xBA]
  | .cpE => [0xBB]
  | .cpH => [0xBC]
  | .cpL => [0xBD]
  | .cpIndHl => [0xBE]
  | .cpA => [0xBF]
  | .retNz => [0xC0]
  | .popBc => [0xC1]
  | .jpNzA16 w => [0xC2, loByte w, hiByte w]
  | .jpA16 w => [0xC3, loByte w, hiByte w]
  | .callNzA16 w => [0xC4, loByte w, hiByte w]
  | .pushBc => [0xC5]
  | .addAD8 b => [0xC6, b]
  | .rst00h => [0xC7]
  | .retZ => [0xC8]
  | .ret => [0xC9]
  | .jpZA16 w => [0xCA, loByte w, hiByte w]
  | .prefixCb b => [0xCB, b]
  | .callZA16 w => [0xCC, loByte w, hiByte w]
  | .callA16 w => [0xCD, loByte w, hiByte w]
  | .adcAD8 b => [0xCE, b]
  | .rst08h => [0xCF]
  | .retNc => [0xD0]
  | .popDe => [0xD1]
  | .jpNcA16 w => [0xD2, loByte w, hiByte w]
  | .undefinedD3 => [0xD3]
  | .callNcA16 w => [0xD4, loByte w, hiByte w]
  | .pushDe => [0xD5]
  | .subD8 b => [0xD6, b]
  | .rst10h => [0xD7]
  | .retC => [0xD8]
  | .reti => [0xD9]
  | .jpCA16 w => [0xDA, loByte w, hiByte w]
  | .undefinedDb => [0xDB]
  | .callCA16 w => [0xDC, loByte w, hiByte w]
  | .undefinedDd => [0xDD]
  | .sbcAD8 b => [0xDE, b]
  | .rst18h => [0xDF]
  | .ldhIndA8A b => [0xE0, b]
  | .popHl => [0xE1]
  | .ldIndCA => [0xE2]
  | .undefinedE3 => [0xE3]
  | .undefinedE4 => [0xE4]
  | .pushHl => [0xE5]
  | .andD8 b => [0xE6, b]
  | .rst20h => [0xE7]
  | .addSpE8 b => [0xE8, b]
  | .jpHl => [0xE9]
  | .ldIndA16A w => [0xEA, loByte w, hiByte w]
  | .undefinedEb => [0xEB]
  | .undefinedEc => [0xEC]
  | .undefinedEd => [0xED]
  | .xorD8 b => [0xEE, b]
  | .rst28h => [0xEF]
  | .ldhAIndA8 b => [0xF0, b]
  | .popAf => [0xF1]
  | .ldAIndC => [0xF2]
  | .di => [0xF3]
  | .undefinedF4 => [0xF4]
  | .pushAf => [0xF5]
  | .orD8 b => [0xF6, b]
  | .rst30h => [0xF7]
  | .ldHlSpE8 b => [0xF8, b]
  | .ldSpHl => [0xF9]
  | .ldAIndA16 w => [0xFA, loByte w, hiByte w]
  | .ei => [0xFB]
  | .undefinedFc => [0xFC]
  | .undefinedFd => [0xFD]
  | .cpD8 b => [0xFE, b]
  | .rst38h => [0xFF]
  | .rlcB => [0xCB, 0x00]
  | .rlcC => [0xCB, 0x01]
  | .rlcD => [0xCB, 0x02]
  | .rlcE => [0xCB, 0x03]
  | .rlcH => [0xCB, 0x04]
  | .rlcL => [0xCB, 0x05]
  | .rlcIndHl => [0xCB, 0x06]
  | .rlcA => [0xCB, 0x07]
  | .rrcB => [0xCB, 0x08]
  | .rrcC => [0xCB, 0x09]
  | .rrcD => [0xCB, 0x0A]
  | .rrcE => [0xCB, 0x0B]
  | .rrcH => [0xCB, 0x0C]
  | .rrcL => [0xCB, 0x0D]
  | .rrcIndHl => [0xCB, 0x0E]
  | .rrcA => [0xCB, 0x0F]
  | .rlB => [0xCB, 0x10]
  | .rlC => [0xCB, 0x11]
  | .rlD => [0xCB, 0x12]
  | .rlE => [0xCB, 0x13]
  | .rlH => [0xCB, 0x14]
  | .rlL => [0xCB, 0x15]
  | .rlIndHl => [0xCB, 0x16]
  | .rlA => [0xCB, 0x17]
  | .rrB => [0xCB, 0x18]
  | .rrC => [0xCB, 0x19]
  | .rrD => [0xCB, 0x1A]
  | .rrE => [0xCB, 0x1B]
  | .rrH => [0xCB, 0x1C]
  | .rrL => [0xCB, 0x1D]
  | .rrIndHl => [0xCB, 0x1E]
  | .rrA => [0xCB, 0x1F]
  | .slaB => [0xCB, 0x20]
  | .slaC => [0xCB, 0x21]
  | .slaD => [0xCB, 0x22]
  | .slaE => [0xCB, 0x23]
  | .slaH => [0xCB, 0x24]
  | .slaL => [0xCB, 0x25]
  | .slaIndHl => [0xCB, 0x26]
  | .slaA => [0xCB, 0x27]
  | .sraB => [0xCB, 0x28]
  | .sraC => [0xCB, 0x29]
  | .sraD => [0xCB, 0x2A]
  | .sraE => [0xCB, 0x2B]
  | .sraH => [0xCB, 0x2C]
  | .sraL => [0xCB, 0x2D]
  | .sraIndHl => [0xCB, 0x2E]
  | .sraA => [0xCB, 0x2F]
  | .swapB => [0xCB, 0x30]
  | .swapC => [0xCB, 0x31]
  | .swapD => [0xCB, 0x32]
  | .swapE => [0xCB, 0x33]
  | .swapH => [0xCB, 0x34]
  | .swapL => [0xCB, 0x35]
  | .swapIndHl => [0xCB, 0x36]
  | .swapA => [0xCB, 0x37]
  | .srlB => [0xCB, 0x38]
  | .srlC => [0xCB, 0x39]
  | .srlD => [0xCB, 0x3A]
  | .srlE => [0xCB, 0x3B]
  | .srlH => [0xCB, 0x3C]
  | .srlL => [0xCB, 0x3D]
  | .srlIndHl => [0xCB, 0x3E]
  | .srlA => [0xCB, 0x3F]
  | .bit0B => [0xCB, 0x40]
  | .bit0C => [0xCB, 0x41]
  | .bit0D => [0xCB, 0x42]
  | .bit0E => [0xCB, 0x43]
  | .bit0H => [0xCB, 0x44]
  | .bit0L => [0xCB, 0x45]
  | .bit0IndHl => [0xCB, 0x46]
  | .bit0A => [0xCB, 0x47]
  | .bit1B => [0xCB, 0x48]
  | .bit1C => [0xCB, 0x49]
  | .bit1D => [0xCB, 0x4A]
  | .bit1E => [0xCB, 0x4B]
  | .bit1H => [0xCB, 0x4C]
  | .bit1L => [0xCB, 0x4D]
  | .bit1IndHl => [0xCB, 0x4E]
  | .bit1A => [0xCB, 0x4F]
  | .bit2B => [0xCB, 0x50]
  | .bit2C => [0xCB, 0x51]
  | .bit2D => [0xCB, 0x52]
  | .bit2E => [0xCB, 0x53]
  | .bit2H => [0xCB, 0x54]
  | .bit2L => [0xCB, 0x55]
  | .bit2IndHl => [0xCB, 0x56]
  | .bit2A => [0xCB, 0x57]
  | .bit3B => [0xCB, 0x58]
  | .bit3C => [0xCB, 0x59]
  | .bit3D => [0xCB, 0x5A]
  | .bit3E => [0xCB, 0x5B]
  | .bit3H => [0xCB, 0x5C]
  | .bit3L => [0xCB, 0x5D]
  | .bit3IndHl => [0xCB, 0x5E]
  | .bit3A => [0xCB, 0x5F]
  | .bit4B => [0xCB, 0x60]
  | .bit4C => [0xCB, 0x61]
  | .bit4D => [0xCB, 0x62]
  | .bit4E => [0xCB, 0x63]
  | .bit4H => [0xCB, 0x64]
  | .bit4L => [0xCB, 0x65]
  | .bit4IndHl => [0xCB, 0x66]
  | .bit4A => [0xCB, 0x67]
  | .bit5B => [0xCB, 0x68]
  | .bit5C => [0xCB, 0x69]
  | .bit5D => [0xCB, 0x6A]
  | .bit5E => [0xCB, 0x6B]
  | .bit5H => [0xCB, 0x6C]
  | .bit5L => [0xCB, 0x6D]
  | .bit5IndHl => [0xCB, 0x6E]
  | .bit5A => [0xCB, 0x6F]
  | .bit6B => [0xCB, 0x70]
  | .bit6C => [0xCB, 0x71]
  | .bit6D => [0xCB, 0x72]
  | .bit6E => [0xCB, 0x73]
  | .bit6H => [0xCB, 0x74]
  | .bit6L => [0xCB, 0x75]
  | .bit6IndHl => [0xCB, 0x76]
  | .bit6A => [0xCB, 0x77]
  | .bit7B => [0xCB, 0x78]
  | .bit7C => [0xCB, 0x79]
  | .bit7D => [0xCB, 0x7A]
  | .bit7E => [0xCB, 0x7B]
  | .bit7H => [0xCB, 0x7C]
  | .bit7L => [0xCB, 0x7D]
  | .bit7IndHl => [0xCB, 0x7E]
  | .bit7A => [0xCB, 0x7F]
  | .res0B => [0xCB, 0x80]
  | .res0C => [0xCB, 0x81]
  | .res0D => [0xCB, 0x82]
  | .res0E => [0xCB, 0x83]
  | .res0H => [0xCB, 0x84]
  | .res0L => [0xCB, 0x85]
  | .res0IndHl => [0xCB, 0x86]
  | .res0A => [0xCB, 0x87]
  | .res1B => [0xCB, 0x88]
  | .res1C => [0xCB, 0x89]
  | .res1D => [0xCB, 0x8A]
  | .res1E => [0xCB, 0x8B]
  | .res1H => [0xCB, 0x8C]
  | .res1L => [0xCB, 0x8D]
  | .res1IndHl => [0xCB, 0x8E]
  | .res1A => [0xCB, 0x8F]
  | .res2B => [0xCB, 0x90]
  | .res2C => [0xCB, 0x91]
  | .res2D => [0xCB, 0x92]
  | .res2E => [0xCB, 0x93]
  | .res2H => [0xCB, 0x94]
  | .res2L => [0xCB, 0x95]
  | .res2IndHl => [0xCB, 0x96]
  | .res2A => [0xCB, 0x97]
  | .res3B => [0xCB, 0x98]
  | .res3C => [0xCB, 0x99]
  | .res3D => [0xCB, 0x9A]
  | .res3E => [0xCB, 0x9B]
  | .res3H => [0xCB, 0x9C]
  | .res3L => [0xCB, 0x9D]
  | .res3IndHl => [0xCB, 0x9E]
  | .res3A => [0xCB, 0x9F]
  | .res4B => [0xCB, 0xA0]
  | .res4C => [0xCB, 0xA1]
  | .res4D => [0xCB, 0xA2]
  | .res4E => [0xCB, 0xA3]
  | .res4H => [0xCB, 0xA4]
  | .res4L => [0xCB, 0xA5]
  | .res4IndHl => [0xCB, 0xA6]
  | .res4A => [0xCB, 0xA7]
  | .res5B => [0xCB, 0xA8]
  | .res5C => [0xCB, 0xA9]
  | .res5D => [0xCB, 0xAA]
  | .res5E => [0xCB, 0xAB]
  | .res5H => [0xCB, 0xAC]
  | .res5L => [0xCB, 0xAD]
  | .res5IndHl => [0xCB, 0xAE]
  | .res5A => [0xCB, 0xAF]
  | .res6B => [0xCB, 0xB0]
  | .res6C => [0xCB, 0xB1]
  | .res6D => [0xCB, 0xB2]
  | .res6E => [0xCB, 0xB3]
  | .res6H => [0xCB, 0xB4]
  | .res6L => [0xCB, 0xB5]
  | .res6IndHl => [0xCB, 0xB6]
  | .res6A => [0xCB, 0xB7]
  | .res7B => [0xCB, 0xB8]
  | .res7C => [0xCB, 0xB9]
  | .res7D => [0xCB, 0xBA]
  | .res7E => [0xCB, 0xBB]
  | .res7H => [0xCB, 0xBC]
  | .res7L => [0xCB, 0xBD]
  | .res7IndHl => [0xCB, 0xBE]
  | .res7A => [0xCB, 0xBF]
  | .set0B => [0xCB, 0xC0]
  | .set0C => [0xCB, 0xC1]
  | .set0D => [0xCB, 0xC2]
  | .set0E => [0xCB, 0xC3]
  | .set0H => [0xCB, 0xC4]
  | .set0L => [0xCB, 0xC5]
  | .set0IndHl => [0xCB, 0xC6]
  | .set0A => [0xCB, 0xC7]
  | .set1B => [0xCB, 0xC8]
  | .set1C => [0xCB, 0xC9]
  | .set1D => [0xCB, 0xCA]
  | .set1E => [0xCB, 0xCB]
  | .set1H => [0xCB, 0xCC]
  | .set1L => [0xCB, 0xCD]
  | .set1IndHl => [0xCB, 0xCE]
  | .set1A => [0xCB, 0xCF]
  | .set2B => [0xCB, 0xD0]
  | .set2C => [0xCB, 0xD1]
  | .set2D => [0xCB, 0xD2]
  | .set2E => [0xCB, 0xD3]
  | .set2H => [0xCB, 0xD4]
  | .set2L => [0xCB, 0xD5]
  | .set2IndHl => [0xCB, 0xD6]
  | .set2A => [0xCB, 0xD7]
  | .set3B => [0xCB, 0xD8]
  | .set3C => [0xCB, 0xD9]
  | .set3D => [0xCB, 0xDA]
  | .set3E => [0xCB, 0xDB]
  | .set3H => [0xCB, 0xDC]
  | .set3L => [0xCB, 0xDD]
  | .set3IndHl => [0xCB, 0xDE]
  | .set3A => [0xCB, 0xDF]
  | .set4B => [0xCB, 0xE0]
  | .set4C => [0xCB, 0xE1]
  | .set4D => [0xCB, 0xE2]
  | .set4E => [0xCB, 0xE3]
  | .set4H => [0xCB, 0xE4]
  | .set4L => [0xCB, 0xE5]
  | .set4IndHl => [0xCB, 0xE6]
  | .set4A => [0xCB, 0xE7]
  | .set5B => [0xCB, 0xE8]
  | .set5C => [0xCB, 0xE9]
  | .set5D => [0xCB, 0xEA]
  | .set5E => [0xCB, 0xEB]
  | .set5H => [0xCB, 0xEC]
  | .set5L => [0xCB, 0xED]
  | .set5IndHl => [0xCB, 0xEE]
  | .set5A => [0xCB, 0xEF]
  | .set6B => [0xCB, 0xF0]
  | .set6C => [0xCB, 0xF1]
  | .set6D => [0xCB, 0xF2]
  | .set6E => [0xCB, 0xF3]
  | .set6H => [0xCB, 0xF4]
  | .set6L => [0xCB, 0xF5]
  | .set6IndHl => [0xCB, 0xF6]
  | .set6A => [0xCB, 0xF7]
  | .set7B => [0xCB, 0xF8]
  | .set7C => [0xCB, 0xF9]
  | .set7D => [0xCB, 0xFA]
  | .set7E => [0xCB, 0xFB]
  | .set7H => [0xCB, 0xFC]
  | .set7L => [0xCB, 0xFD]
  | .set7IndHl => [0xCB, 0xFE]
  | .set7A => [0xCB, 0xFF]

end Sys2Proof
end

