-- ==== Sys2Proof/Config.lean ====
section
/-! DEFINITION. What an implementation fixes and the spec leaves open (00_scope.md section 4, "Implementation
parameters"). JOY_REQ is an input of every step and stands in State; BOOT and CART are arguments of
`Machine.State.resetWith`; here stand the other four. -/

namespace Sys2Proof

/-- The two parameters of 00_scope.md section 4 that an access or a poll consults. A State carries one `Params` and no step
changes it, so a statement about every state holds for every value of both (log 2). -/
structure Params where
  /-- ECHO_BASE: the cartridge offset that address 0xE000 maps to (20_memory.md R44, decision D8). -/
  echoBase : Word
  /-- IME_CLEAR_ON_UNDISPATCHED: whether a nonzero trigger made only of bits that are never dispatched still clears IME
  (60_exceptions.md R278, decision D13). -/
  imeClearOnUndispatched : Bool
deriving DecidableEq, Repr

/-- The spec's defaults of the two parameters (00_scope.md section 4). DESIGN CHOICE (the spec's, D8 and D13; log 2). -/
def Params.default : Params := { echoBase := 0x0000, imeClearOnUndispatched := true }

/-- RESET_REGS: the values of A F B C D E H L SP at reset (00_scope.md section 4, 10_state.md R33, decision D10). -/
structure ResetRegs where
  a : Byte
  f : Byte
  b : Byte
  c : Byte
  d : Byte
  e : Byte
  h : Byte
  l : Byte
  sp : Word
deriving DecidableEq, Repr

/-- The spec's default of RESET_REGS: all 0 (00_scope.md section 4). DESIGN CHOICE (the spec's, D10; log 4). -/
def ResetRegs.default : ResetRegs := { a := 0, f := 0, b := 0, c := 0, d := 0, e := 0, h := 0, l := 0, sp := 0 }

/-- CYCLES: the cost the tick counter adds for a primary opcode (10_state.md R31, 70_reset_and_hazards.md R302). The spec leaves
it uninterpreted (decision D18), so it has no value here: a statement about the tick counter holds for every cost table
(log 3). -/
opaque Config.cycles : Byte → Nat

end Sys2Proof
end

