-- ==== Sys2Proof/Machine/State.lean ====
section
/-! DEFINITION. Everything the spec gives the machine (10_state.md: "There is nothing else"), as plain data, the reasons a step
can stop, and the state right after reset. The pairs AF BC DE HL are views, not state (R12); IE and IF are memory bytes
(R24, R25). -/

namespace Sys2Proof.Machine

/-- Memory: the bytes that do not read as `Memory.unlisted`, as (cell, byte) pairs, cells strictly rising (`Memory.wf`). A cell's
number is the address that names it; the echo window has no cells (20_memory.md R41, R44; log 19). -/
abbrev Memory := List Host.Cell

/-- The state of the core. -/
structure State where
  /-- A, the accumulator (10_state.md R10). -/
  a : Byte
  /-- F, the flag register: bit 7 Z, 6 N, 5 H, 4 C; every write clears bits 3 to 0 (10_state.md R13, R14; log 11). -/
  f : Byte
  /-- B (10_state.md R10). -/
  b : Byte
  /-- C, the register (10_state.md R10). -/
  c : Byte
  /-- D (10_state.md R10). -/
  d : Byte
  /-- E (10_state.md R10). -/
  e : Byte
  /-- H, the register (10_state.md R10). -/
  h : Byte
  /-- L (10_state.md R10). -/
  l : Byte
  /-- SP: the address of the low byte of the value pushed last (10_state.md R19). -/
  sp : Word
  /-- PC: at the start of a step, the address of the primary opcode (10_state.md R16). -/
  pc : Word
  /-- IME, the interrupt master enable (10_state.md R21). -/
  ime : Bool
  /-- `enable_requested`: set by EI, applied and cleared by the poll (10_state.md R22). -/
  enableRequested : Bool
  /-- `disable_requested`: set by DI, applied and cleared by the poll (10_state.md R23). -/
  disableRequested : Bool
  /-- `instr_count`, unbounded (10_state.md R30). -/
  instrCount : Nat
  /-- `tick_count`, unbounded (10_state.md R30). -/
  tickCount : Nat
  /-- The bytes of all seven regions (20_memory.md R41). -/
  mem : Memory
  /-- The model's own field: the JOY_REQ inputs of the coming steps, the first for the next step; a step for which the list has
  none gets `false` (00_scope.md R3, 60_exceptions.md R271; log 1). -/
  joyReq : List Bool
  /-- The model's own field: the machine's parameters, which no step changes (00_scope.md section 4; log 2). -/
  params : Params
deriving DecidableEq, Repr

/-- The four fatal kinds of 60_exceptions.md R260, each with its payload. A fault ends the run: "non-resumable for that CPU
instance"; the state at the fault is the state the step began with (R265), so a fault carries none (log 13). -/
inductive Fault where
  /-- An access in no region. Nothing raises it: the regions cover every 16-bit address (R261, 20_memory.md R47). Safe. -/
  | unmappedAddress (address : Word)
  /-- Raised by the eleven unbound primary opcodes (R262, 46_system.md R256). Safe: the spec's own stop. -/
  | unknownPrimaryOpcode (op : Byte)
  /-- An extended opcode without an operation. Nothing raises it: the extended table is total (R263). Safe. -/
  | unknownExtendedOpcode (xop : Byte)
  /-- Raised by HALT and STOP (R264, 46_system.md R251, R252). Safe: the spec's own stop. -/
  | unsupportedStop (op : Byte)
deriving DecidableEq, Repr

/-- Why the model gives an instruction no meaning. -/
inductive Refusal where
  /-- An instruction the model has not reached, by its mnemonic in spec/opcode_table.json. No arm of `exec` answers it. Safe. -/
  | notModelled (mnemonic : String)
deriving DecidableEq, Repr

/-- The state right after reset (10_state.md R33), with the defaults of RESET_REGS and of the parameters, no byte of BOOT or CART
placed (log 4 to 7, 23) and no joypad request to come (log 1). `State.resetWith` is reset with every parameter. -/
def State.reset : State :=
  { a := 0x00, f := 0x00, b := 0x00, c := 0x00, d := 0x00, e := 0x00, h := 0x00, l := 0x00,
    sp := 0x0000, pc := 0x0000, ime := false, enableRequested := false, disableRequested := false,
    instrCount := 0, tickCount := 0, mem := [], joyReq := [], params := Params.default }

end Sys2Proof.Machine
end

