-- ==== Sys2Proof/Machine/Ops.lean ====
section
/-! DEFINITION. The named operations over memory and the registers that every meaning is built from: the memory list, the
address-space decoder, the four access primitives (20_memory.md), the program counter, the stack (45_control_flow_stack.md R220,
R221), taking an interrupt and returning from one (60_exceptions.md R274, R276), and the counters (10_state.md R31). -/

namespace Sys2Proof.Machine

/-! ## The memory list -/

/-- What a byte that nothing has written reads as: 0x00 (10_state.md R33, decision D11). DESIGN CHOICE, unsafe (log 7). -/
def Memory.unlisted : Byte := 0x00

/-- The cells there are: every address but those of the echo window, which has no storage (20_memory.md R41). -/
abbrev Memory.IsCell (k : Nat) : Prop := k < 0xE000 ∨ (0xF000 ≤ k ∧ k < 0x10000)

/-- The canonical form: cells strictly rising, each a cell that exists, no entry equal to what an unlisted cell reads as. -/
abbrev Memory.wf (m : Memory) : Prop :=
  m.Pairwise (fun x y => x.1 < y.1) ∧ ∀ x ∈ m, Memory.IsCell x.1 ∧ x.2 ≠ Memory.unlisted

/-- The byte in a cell. -/
def Memory.get : Memory → Nat → Byte
  | [], _ => Memory.unlisted
  | x :: m, k => if x.1 = k then x.2 else Memory.get m k

/-- The list without a cell. -/
def Memory.erase (m : Memory) (k : Nat) : Memory := m.filter (fun x => x.1 != k)

/-- The list with an entry put before the first larger cell. -/
def Memory.insert : Memory → Nat → Byte → Memory
  | [], k, v => [(k, v)]
  | x :: m, k, v => if k < x.1 then (k, v) :: x :: m else x :: Memory.insert m k v

/-- The list after a cell is given a byte, in canonical form again: an entry that would read as unlisted is dropped. -/
def Memory.put (m : Memory) (k : Nat) (v : Byte) : Memory :=
  if v = Memory.unlisted then Memory.erase m k else Memory.insert (Memory.erase m k) k v

/-! ## The address-space decoder -/

/-- The regions of 20_memory.md R41, in address order. -/
inductive Region where
  | cart | vram | eram | wram | echo | oam | io
deriving DecidableEq, Repr

/-- The first address of a region (20_memory.md R41). -/
def Region.first : Region → Nat
  | .cart => 0x0000
  | .vram => 0x8000
  | .eram => 0xA000
  | .wram => 0xC000
  | .echo => 0xE000
  | .oam => 0xF000
  | .io => 0xFEA0

/-- The last address of a region, inclusive (20_memory.md R41). -/
def Region.last : Region → Nat
  | .cart => 0x7FFF
  | .vram => 0x9FFF
  | .eram => 0xBFFF
  | .wram => 0xDFFF
  | .echo => 0xEFFF
  | .oam => 0xFE9F
  | .io => 0xFFFF

/-- The region an address resolves to. Every address has one, so no access is unmapped (20_memory.md R47; log 14). -/
def regionOf (a : Word) : Region :=
  if a.toNat ≤ 0x7FFF then .cart
  else if a.toNat ≤ 0x9FFF then .vram
  else if a.toNat ≤ 0xBFFF then .eram
  else if a.toNat ≤ 0xDFFF then .wram
  else if a.toNat ≤ 0xEFFF then .echo
  else if a.toNat ≤ 0xFE9F then .oam
  else .io

/-- The cell an address names. An echo address names the cartridge byte `(ECHO_BASE + (a - 0xE000)) mod 0x8000`; every other
address its own (20_memory.md R42 to R45). -/
def cellOf (p : Params) (a : Word) : Nat :=
  match regionOf a with
  | .echo => (p.echoBase.toNat + (a.toNat - 0xE000)) % 0x8000
  | _ => a.toNat

/-- The scanline stub's address (10_state.md R26). -/
def scanlineAddr : Word := 0xFF44

/-- What the scanline stub always reads as (20_memory.md R48). -/
def scanlineValue : Byte := 0x90

/-- IE's address (10_state.md R24; decision D7, log 9). -/
def ieAddr : Word := 0xFFFF

/-- IF's address (10_state.md R25; decision D7, log 9). -/
def ifAddr : Word := 0xFF0F

/-! ## The access primitives -/

/-- `read8` (20_memory.md R48): 0x90 at the scanline stub whatever is stored there, else the byte of the cell. -/
def State.read8 (s : State) (a : Word) : Byte :=
  if a = scanlineAddr then scanlineValue else s.mem.get (cellOf s.params a)

/-- `write8` (20_memory.md R49): one byte, and nothing else; a byte stored at the scanline stub is never read. -/
def State.write8 (s : State) (a : Word) (v : Byte) : State :=
  { s with mem := s.mem.put (cellOf s.params a) v }

/-- `read16` (20_memory.md R50): low byte at `a`, high byte at `a + 1` modulo 2^16, each resolved on its own. -/
def State.read16 (s : State) (a : Word) : Word :=
  ofBytes (s.read8 (a + 1)) (s.read8 a)

/-- `write16` (20_memory.md R51): low byte at `a`, then high byte at `a + 1` modulo 2^16. -/
def State.write16 (s : State) (a v : Word) : State :=
  (s.write8 a (loByte v)).write8 (a + 1) (hiByte v)

/-! ## The program counter -/

/-- `sext_16` (00_scope.md section 6.1): two's complement sign extension of a displacement byte. -/
def sext16 (e : Byte) : Word := e.signExtend 16

/-- The address `0xFF00 + a8` of the high-page forms (30_encoding.md R87). -/
def highPage (a8 : Byte) : Word := 0xFF00 + a8.zeroExtend 16

/-- `PC <- (PC + len) mod 2^16`, how an instruction that does not transfer control ends (10_state.md R17). -/
def State.advance (s : State) (len : Nat) : State :=
  { s with pc := s.pc + BitVec.ofNat 16 len }

/-- `PC <- target`. -/
def State.jump (s : State) (target : Word) : State := { s with pc := target }

/-! ## The stack -/

/-- `push16` (45_control_flow_stack.md R220): SP down by 2, then the word at SP, low byte first. -/
def State.push16 (s : State) (v : Word) : State :=
  ({ s with sp := s.sp - 2 }).write16 (s.sp - 2) v

/-- The value `pop16` returns (45_control_flow_stack.md R221). -/
def State.top16 (s : State) : Word := s.read16 s.sp

/-- What `pop16` does to the state: SP up by 2 (45_control_flow_stack.md R221). -/
def State.drop16 (s : State) : State := { s with sp := s.sp + 2 }

/-! ## Taking an interrupt, and returning from one -/

/-- The four interrupt classes the controller dispatches, highest priority first (60_exceptions.md R273). -/
inductive IrqClass where
  | vblank | lcd | timer | joypad
deriving DecidableEq, Repr

/-- The class's bit of IE and IF (60_exceptions.md R273). Bit 3, serial, has no class: it is never dispatched. -/
def IrqClass.bit : IrqClass → Nat
  | .vblank => 0
  | .lcd => 1
  | .timer => 2
  | .joypad => 4

/-- The class's vector (60_exceptions.md R273). -/
def IrqClass.vector : IrqClass → Word
  | .vblank => 0x0040
  | .lcd => 0x0048
  | .timer => 0x0050
  | .joypad => 0x0060

/-- A byte with bit `k` cleared: `v & ~(1 << k)`. -/
def clearBit (v : Byte) (k : Nat) : Byte := v &&& ~~~(1#8 <<< k)

/-- A byte with bit `k` set: `v | (1 << k)`. -/
def setBit (v : Byte) (k : Nat) : Byte := v ||| (1#8 <<< k)

/-- Interrupt entry (60_exceptions.md R272, R274), in the spec's order: IME to 0; the class's bit of IF cleared, the others kept;
PC pushed as the instruction of this step left it; PC to the vector. Nothing else is saved, and no counter moves. -/
def State.enterInterrupt (s : State) (k : IrqClass) : State :=
  let s1 := { s with ime := false }
  let s2 := s1.write8 ifAddr (clearBit (s1.read8 ifAddr) k.bit)
  (s2.push16 s2.pc).jump k.vector

/-- RETI's return (45_control_flow_stack.md R231, 60_exceptions.md R276): `PC <- pop16(); IME <- 1`, at once, and nothing else is
restored. -/
def State.returnFromInterrupt (s : State) : State :=
  { s.drop16 with pc := s.top16, ime := true }

/-! ## The counters -/

/-- One instruction counted, and `CYCLES(op)` ticks (10_state.md R31). -/
def State.count (s : State) (op : Byte) : State :=
  { s with instrCount := s.instrCount + 1, tickCount := s.tickCount + Config.cycles op }

end Sys2Proof.Machine
end

