-- ==== Sys2Proof/Machine/Operands.lean ====
section
/-! DEFINITION. Every operand form: the 8-bit registers, the operand slot, the pair views, the pushable pairs, and the one place where
F's hard-wired low nibble is kept (10_state.md R10 to R15; 30_encoding.md R74 to R76). -/

namespace Sys2Proof.Machine

/-- `x[i]` read (10_state.md R15). -/
def State.getReg (s : State) : Reg → Byte
  | .b => s.b
  | .c => s.c
  | .d => s.d
  | .e => s.e
  | .h => s.h
  | .l => s.l
  | .a => s.a

/-- `x[i] <- v` (10_state.md R15). -/
def State.setReg (s : State) (r : Reg) (v : Byte) : State :=
  match r with
  | .b => { s with b := v }
  | .c => { s with c := v }
  | .d => { s with d := v }
  | .e => { s with e := v }
  | .h => { s with h := v }
  | .l => { s with l := v }
  | .a => { s with a := v }

/-- A write of F: bits 3 to 0 are dropped, "F & 0x0F == 0 at all times" (10_state.md R13; log 11). -/
def State.setF (s : State) (v : Byte) : State := { s with f := v &&& 0xF0 }

/-- The view BC = (B << 8) | C (10_state.md R12). -/
def State.bc (s : State) : Word := ofBytes s.b s.c

/-- The view DE = (D << 8) | E (10_state.md R12). -/
def State.de (s : State) : Word := ofBytes s.d s.e

/-- The view HL = (H << 8) | L (10_state.md R12). -/
def State.hl (s : State) : Word := ofBytes s.h s.l

/-- The view AF = (A << 8) | F (10_state.md R12). -/
def State.af (s : State) : Word := ofBytes s.a s.f

/-- `rp[p]` read (30_encoding.md R76). -/
def State.getPair (s : State) : Pair → Word
  | .bc => s.bc
  | .de => s.de
  | .hl => s.hl
  | .sp => s.sp

/-- `rp[p] <- v`: a pair's high register gets `v[15:8]`, its low register `v[7:0]` (10_state.md R12). -/
def State.setPair (s : State) (p : Pair) (v : Word) : State :=
  match p with
  | .bc => { s with b := hiByte v, c := loByte v }
  | .de => { s with d := hiByte v, e := loByte v }
  | .hl => { s with h := hiByte v, l := loByte v }
  | .sp => { s with sp := v }

/-- `rp2[p]` read (30_encoding.md R76). -/
def State.getStackPair (s : State) : StackPair → Word
  | .bc => s.bc
  | .de => s.de
  | .hl => s.hl
  | .af => s.af

/-- `rp2[p] <- v`: as `setPair`; through AF, the low byte is masked as every write of F is (10_state.md R12, R13). -/
def State.setStackPair (s : State) (p : StackPair) (v : Word) : State :=
  match p with
  | .bc => s.setPair .bc v
  | .de => s.setPair .de v
  | .hl => s.setPair .hl v
  | .af => (s.setReg .a (hiByte v)).setF (loByte v)

/-- `slot[i]` read: a register, or `MemRead(HL, 1)` (30_encoding.md R75). -/
def State.getSlot (s : State) : Slot → Byte
  | .b => s.b
  | .c => s.c
  | .d => s.d
  | .e => s.e
  | .h => s.h
  | .l => s.l
  | .indHl => s.read8 s.hl
  | .a => s.a

/-- `slot[i] <- v`: a register, or `MemWrite(HL, 1, v)` (30_encoding.md R75). -/
def State.setSlot (s : State) (z : Slot) (v : Byte) : State :=
  match z with
  | .b => s.setReg .b v
  | .c => s.setReg .c v
  | .d => s.setReg .d v
  | .e => s.setReg .e v
  | .h => s.setReg .h v
  | .l => s.setReg .l v
  | .indHl => s.write8 s.hl v
  | .a => s.setReg .a v

end Sys2Proof.Machine
end

