-- ==== Sys2Proof/Machine/Flags.lean ====
section
/-! DEFINITION. The flags and every flag computation: the document's "correctness-critical contract" (42_alu_8bit.md section 1,
43_alu_16bit.md section 1, 44_rotate_shift_bit.md). Sums and comparisons are over the naturals, narrowed at the end. -/

namespace Sys2Proof.Machine

/-! ## The flag bits -/

/-- The bit of F a flag is (10_state.md R14). -/
def flagBit : Flag → Nat
  | .z => 7
  | .n => 6
  | .h => 5
  | .c => 4

/-- A flag as a boolean (10_state.md R14). -/
def State.flag (s : State) (k : Flag) : Bool := s.f.getLsbD (flagBit k)

/-- F with the four flags given and the low nibble 0 (10_state.md R13, R14). -/
def packFlags (z n h c : Bool) : Byte :=
  BitVec.ofBool z ++ BitVec.ofBool n ++ BitVec.ofBool h ++ BitVec.ofBool c ++ 0#4

/-- All four flags written. -/
def State.withFlags (s : State) (z n h c : Bool) : State := s.setF (packFlags z n h c)

/-- One flag set to `v`, "that one bit of F", the other three as they were (10_state.md R14). -/
def State.setFlag (s : State) (k : Flag) (v : Bool) : State :=
  s.setF (if v then setBit s.f (flagBit k) else clearBit s.f (flagBit k))

/-- `cond(cc)` (45_control_flow_stack.md R222): the flag sample and the polarity of each condition. -/
def State.cond (s : State) : Cond → Bool
  | .nz => !s.flag .z
  | .z => s.flag .z
  | .nc => !s.flag .c
  | .c => s.flag .c

/-! ## 8-bit arithmetic and logic -/

/-- What an 8-bit primitive returns: the result and the four flag values (42_alu_8bit.md R140 to R144). -/
structure Alu8 where
  r : Byte
  z : Bool
  n : Bool
  h : Bool
  c : Bool
deriving DecidableEq, Repr

/-- `add8(a, b, cin)` (42_alu_8bit.md R140). -/
def add8 (a b : Byte) (cin : Bool) : Alu8 :=
  let r : Byte := BitVec.ofNat 8 (a.toNat + b.toNat + cin.toNat)
  { r := r, z := r == 0, n := false,
    h := decide (a.toNat % 16 + b.toNat % 16 + cin.toNat > 0xF),
    c := decide (a.toNat + b.toNat + cin.toNat > 0xFF) }

/-- `sub8(a, b, cin)` (42_alu_8bit.md R141): the result is the non-negative remainder of `a - b - cin`. -/
def sub8 (a b : Byte) (cin : Bool) : Alu8 :=
  let r : Byte := BitVec.ofNat 8 (a.toNat + 0x200 - b.toNat - cin.toNat)
  { r := r, z := r == 0, n := true,
    h := decide (a.toNat % 16 < b.toNat % 16 + cin.toNat),
    c := decide (a.toNat < b.toNat + cin.toNat) }

/-- `and8(a, b)` (42_alu_8bit.md R142). -/
def and8 (a b : Byte) : Alu8 := { r := a &&& b, z := a &&& b == 0, n := false, h := true, c := false }

/-- `or8(a, b)` (42_alu_8bit.md R143). -/
def or8 (a b : Byte) : Alu8 := { r := a ||| b, z := a ||| b == 0, n := false, h := false, c := false }

/-- `xor8(a, b)` (42_alu_8bit.md R144). -/
def xor8 (a b : Byte) : Alu8 := { r := a ^^^ b, z := a ^^^ b == 0, n := false, h := false, c := false }

/-- The primitive each operation on A binds; ADC and SBC take the C flag as carry-in, the others 0; CP is `sub8` (42_alu_8bit.md
R145 to R160). -/
def alu (op : AluOp) (a v : Byte) (cf : Bool) : Alu8 :=
  match op with
  | .add => add8 a v false
  | .adc => add8 a v cf
  | .sub => sub8 a v false
  | .sbc => sub8 a v cf
  | .and => and8 a v
  | .xor => xor8 a v
  | .or => or8 a v
  | .cp => sub8 a v false

/-- DAA's adjustment (42_alu_8bit.md R165): 0x60 for C, 0x06 for H; with N clear also 0x06 when A's low nibble is above 9 and 0x60 when A
is above 0x99, both on the A of before. -/
def daaAdjust (a : Byte) (n h c : Bool) : Byte :=
  let adj : Byte := (if c then 0x60 else 0) ||| (if h then 0x06 else 0)
  if n then adj
  else adj ||| (if a.toNat % 16 > 9 then 0x06 else 0) ||| (if a.toNat > 0x99 then 0x60 else 0)

/-- DAA's result: the adjustment added when N is clear, subtracted when it is set (42_alu_8bit.md R165). -/
def daaResult (a : Byte) (n h c : Bool) : Byte :=
  if n then a - daaAdjust a n h c else a + daaAdjust a n h c

/-! ## 16-bit arithmetic -/

/-- What a 16-bit primitive returns (43_alu_16bit.md R180, R181). -/
structure Alu16 where
  r : Word
  h : Bool
  c : Bool
deriving DecidableEq, Repr

/-- `add16(a, b)` (43_alu_16bit.md R180). -/
def add16 (a b : Word) : Alu16 :=
  { r := BitVec.ofNat 16 (a.toNat + b.toNat),
    h := decide (a.toNat % 0x1000 + b.toNat % 0x1000 > 0x0FFF),
    c := decide (a.toNat > 0xFFFF - b.toNat) }

/-- `addsp(sp, e)` (43_alu_16bit.md R181): the sum with the displacement sign-extended; H and C from the low byte of SP plus the raw byte,
out of bits 3 and 7 (decision D32, log 24). -/
def addsp (sp : Word) (e : Byte) : Alu16 :=
  { r := sp + sext16 e,
    h := decide (sp.toNat % 0x10 + e.toNat % 0x10 > 0x0F),
    c := decide (sp.toNat % 0x100 + e.toNat > 0xFF) }

/-! ## Rotates and shifts -/

/-- The result of a rotate, shift or swap of `v` with carry-in `cf` (44_rotate_shift_bit.md R194 to R201). -/
def rotResult (op : RotOp) (v : Byte) (cf : Bool) : Byte :=
  match op with
  | .rlc => (v <<< 1) ||| (BitVec.ofBool (v.getLsbD 7)).zeroExtend 8
  | .rrc => (v >>> 1) ||| ((BitVec.ofBool (v.getLsbD 0)).zeroExtend 8 <<< 7)
  | .rl => (v <<< 1) ||| (BitVec.ofBool cf).zeroExtend 8
  | .rr => (v >>> 1) ||| ((BitVec.ofBool cf).zeroExtend 8 <<< 7)
  | .sla => v <<< 1
  | .sra => (v >>> 1) ||| (v &&& 0x80)
  | .swap => (v <<< 4) ||| (v >>> 4)
  | .srl => v >>> 1

/-- The C flag of a rotate or shift, the bit shifted out; SWAP clears it (44_rotate_shift_bit.md R194 to R201). -/
def rotCarry (op : RotOp) (v : Byte) : Bool :=
  match op with
  | .rlc | .rl | .sla => v.getLsbD 7
  | .rrc | .rr | .sra | .srl => v.getLsbD 0
  | .swap => false

end Sys2Proof.Machine
end

