-- ==== Sys2Proof/Machine/Alu16.lean ====
section
/-! DEFINITION. 16-bit arithmetic (43_alu_16bit.md R182 to R185). -/

namespace Sys2Proof.Machine

/-- ADD HL,rr without its PC: H and C from `add16`; Z AND N are not written (R182; 93_implementation_defined.md V1). -/
def State.addHl (s : State) (v : Word) : State :=
  let o := add16 s.hl v
  ((s.setPair .hl o.r).setFlag .h o.h).setFlag .c o.c

/-- ADD SP,e8 without its PC: SP from `addsp`, Z and N to 0 (R185). -/
def State.addSp (s : State) (e8 : Byte) : State :=
  let o := addsp s.sp e8
  (s.setPair .sp o.r).withFlags false false o.h o.c

/-- ADD HL,BC (R182). -/
def execAddHlBc (s : State) : Host.Outcome State Fault Refusal :=
  .next ((s.addHl (s.getPair .bc)).advance 1)

/-- ADD HL,DE (R182). -/
def execAddHlDe (s : State) : Host.Outcome State Fault Refusal :=
  .next ((s.addHl (s.getPair .de)).advance 1)

/-- ADD HL,HL (R182). -/
def execAddHlHl (s : State) : Host.Outcome State Fault Refusal :=
  .next ((s.addHl (s.getPair .hl)).advance 1)

/-- ADD HL,SP (R182). -/
def execAddHlSp (s : State) : Host.Outcome State Fault Refusal :=
  .next ((s.addHl (s.getPair .sp)).advance 1)

/-- INC BC (R183). -/
def execIncBc (s : State) : Host.Outcome State Fault Refusal :=
  .next ((s.setPair .bc (s.getPair .bc + 1)).advance 1)

/-- INC DE (R183). -/
def execIncDe (s : State) : Host.Outcome State Fault Refusal :=
  .next ((s.setPair .de (s.getPair .de + 1)).advance 1)

/-- INC HL (R183). -/
def execIncHl (s : State) : Host.Outcome State Fault Refusal :=
  .next ((s.setPair .hl (s.getPair .hl + 1)).advance 1)

/-- INC SP (R183). -/
def execIncSp (s : State) : Host.Outcome State Fault Refusal :=
  .next ((s.setPair .sp (s.getPair .sp + 1)).advance 1)

/-- DEC BC (R184). -/
def execDecBc (s : State) : Host.Outcome State Fault Refusal :=
  .next ((s.setPair .bc (s.getPair .bc - 1)).advance 1)

/-- DEC DE (R184). -/
def execDecDe (s : State) : Host.Outcome State Fault Refusal :=
  .next ((s.setPair .de (s.getPair .de - 1)).advance 1)

/-- DEC HL (R184). -/
def execDecHl (s : State) : Host.Outcome State Fault Refusal :=
  .next ((s.setPair .hl (s.getPair .hl - 1)).advance 1)

/-- DEC SP (R184). -/
def execDecSp (s : State) : Host.Outcome State Fault Refusal :=
  .next ((s.setPair .sp (s.getPair .sp - 1)).advance 1)

/-- ADD SP,e8 (R185). -/
def execAddSpE8 (e8 : Byte) (s : State) : Host.Outcome State Fault Refusal :=
  .next ((s.addSp e8).advance 2)

end Sys2Proof.Machine
end

