-- ==== Sys2Proof/Machine/Alu8.lean ====
section
/-! DEFINITION. 8-bit arithmetic and logic (42_alu_8bit.md R145 to R168). -/

namespace Sys2Proof.Machine

/-- An operation on A without its PC: all four flags from the primitive, and A from its result but for CP, which discards it
(R145 to R160). -/
def State.aluA (s : State) (op : AluOp) (v : Byte) : State :=
  let o := alu op s.a v (s.flag .c)
  let s1 := match op with
    | .cp => s
    | _ => s.setReg .a o.r
  s1.withFlags o.z o.n o.h o.c

/-- INC of a slot without its PC: `add8` with 1, the C flag not touched (R161, R162). -/
def State.incSlot (s : State) (z : Slot) : State :=
  let o := add8 (s.getSlot z) 1 false
  (s.setSlot z o.r).withFlags o.z o.n o.h (s.flag .c)

/-- DEC of a slot without its PC: `sub8` with 1, the C flag not touched (R163, R164). -/
def State.decSlot (s : State) (z : Slot) : State :=
  let o := sub8 (s.getSlot z) 1 false
  (s.setSlot z o.r).withFlags o.z o.n o.h (s.flag .c)

/-- DAA without its PC: A adjusted, Z from the result, H to 0, C set exactly when the adjustment holds 0x60, N kept (R165). -/
def State.daa (s : State) : State :=
  let adj := daaAdjust s.a (s.flag .n) (s.flag .h) (s.flag .c)
  let r := daaResult s.a (s.flag .n) (s.flag .h) (s.flag .c)
  (s.setReg .a r).withFlags (r == 0) (s.flag .n) false (decide (adj.toNat ≥ 0x60))

/-- CPL without its PC: `A ^ 0xFF`, N and H to 1, Z and C kept (R166). -/
def State.complementA (s : State) : State :=
  ((s.setReg .a (s.a ^^^ 0xFF)).setFlag .n true).setFlag .h true

/-- SCF without its PC: N and H to 0, C to 1, Z kept (R167). -/
def State.setCarry (s : State) : State :=
  ((s.setFlag .n false).setFlag .h false).setFlag .c true

/-- CCF without its PC: N and H to 0, C inverted, Z kept (R168). -/
def State.complementCarry (s : State) : State :=
  ((s.setFlag .n false).setFlag .h false).setFlag .c (!s.flag .c)

/-- ADD A,B (R145). -/
def execAddAB (s : State) : Host.Outcome State Fault Refusal :=
  .next ((s.aluA .add (s.getSlot .b)).advance 1)

/-- ADD A,C (R145). -/
def execAddAC (s : State) : Host.Outcome State Fault Refusal :=
  .next ((s.aluA .add (s.getSlot .c)).advance 1)

/-- ADD A,D (R145). -/
def execAddAD (s : State) : Host.Outcome State Fault Refusal :=
  .next ((s.aluA .add (s.getSlot .d)).advance 1)

/-- ADD A,E (R145). -/
def execAddAE (s : State) : Host.Outcome State Fault Refusal :=
  .next ((s.aluA .add (s.getSlot .e)).advance 1)

/-- ADD A,H (R145). -/
def execAddAH (s : State) : Host.Outcome State Fault Refusal :=
  .next ((s.aluA .add (s.getSlot .h)).advance 1)

/-- ADD A,L (R145). -/
def execAddAL (s : State) : Host.Outcome State Fault Refusal :=
  .next ((s.aluA .add (s.getSlot .l)).advance 1)

/-- ADD A,(HL) (R145). -/
def execAddAIndHl (s : State) : Host.Outcome State Fault Refusal :=
  .next ((s.aluA .add (s.getSlot .indHl)).advance 1)

/-- ADD A,A (R145). -/
def execAddAA (s : State) : Host.Outcome State Fault Refusal :=
  .next ((s.aluA .add (s.getSlot .a)).advance 1)

/-- ADD A,d8 (R146). -/
def execAddAD8 (d8 : Byte) (s : State) : Host.Outcome State Fault Refusal :=
  .next ((s.aluA .add d8).advance 2)

/-- ADC A,B (R147). -/
def execAdcAB (s : State) : Host.Outcome State Fault Refusal :=
  .next ((s.aluA .adc (s.getSlot .b)).advance 1)

/-- ADC A,C (R147). -/
def execAdcAC (s : State) : Host.Outcome State Fault Refusal :=
  .next ((s.aluA .adc (s.getSlot .c)).advance 1)

/-- ADC A,D (R147). -/
def execAdcAD (s : State) : Host.Outcome State Fault Refusal :=
  .next ((s.aluA .adc (s.getSlot .d)).advance 1)

/-- ADC A,E (R147). -/
def execAdcAE (s : State) : Host.Outcome State Fault Refusal :=
  .next ((s.aluA .adc (s.getSlot .e)).advance 1)

/-- ADC A,H (R147). -/
def execAdcAH (s : State) : Host.Outcome State Fault Refusal :=
  .next ((s.aluA .adc (s.getSlot .h)).advance 1)

/-- ADC A,L (R147). -/
def execAdcAL (s : State) : Host.Outcome State Fault Refusal :=
  .next ((s.aluA .adc (s.getSlot .l)).advance 1)

/-- ADC A,(HL) (R147). -/
def execAdcAIndHl (s : State) : Host.Outcome State Fault Refusal :=
  .next ((s.aluA .adc (s.getSlot .indHl)).advance 1)

/-- ADC A,A (R147). -/
def execAdcAA (s : State) : Host.Outcome State Fault Refusal :=
  .next ((s.aluA .adc (s.getSlot .a)).advance 1)

/-- ADC A,d8 (R148). -/
def execAdcAD8 (d8 : Byte) (s : State) : Host.Outcome State Fault Refusal :=
  .next ((s.aluA .adc d8).advance 2)

/-- SUB B (R149). -/
def execSubB (s : State) : Host.Outcome State Fault Refusal :=
  .next ((s.aluA .sub (s.getSlot .b)).advance 1)

/-- SUB C (R149). -/
def execSubC (s : State) : Host.Outcome State Fault Refusal :=
  .next ((s.aluA .sub (s.getSlot .c)).advance 1)

/-- SUB D (R149). -/
def execSubD (s : State) : Host.Outcome State Fault Refusal :=
  .next ((s.aluA .sub (s.getSlot .d)).advance 1)

/-- SUB E (R149). -/
def execSubE (s : State) : Host.Outcome State Fault Refusal :=
  .next ((s.aluA .sub (s.getSlot .e)).advance 1)

/-- SUB H (R149). -/
def execSubH (s : State) : Host.Outcome State Fault Refusal :=
  .next ((s.aluA .sub (s.getSlot .h)).advance 1)

/-- SUB L (R149). -/
def execSubL (s : State) : Host.Outcome State Fault Refusal :=
  .next ((s.aluA .sub (s.getSlot .l)).advance 1)

/-- SUB (HL) (R149). -/
def execSubIndHl (s : State) : Host.Outcome State Fault Refusal :=
  .next ((s.aluA .sub (s.getSlot .indHl)).advance 1)

/-- SUB A (R149). -/
def execSubA (s : State) : Host.Outcome State Fault Refusal :=
  .next ((s.aluA .sub (s.getSlot .a)).advance 1)

/-- SUB d8 (R150). -/
def execSubD8 (d8 : Byte) (s : State) : Host.Outcome State Fault Refusal :=
  .next ((s.aluA .sub d8).advance 2)

/-- SBC A,B (R151). -/
def execSbcAB (s : State) : Host.Outcome State Fault Refusal :=
  .next ((s.aluA .sbc (s.getSlot .b)).advance 1)

/-- SBC A,C (R151). -/
def execSbcAC (s : State) : Host.Outcome State Fault Refusal :=
  .next ((s.aluA .sbc (s.getSlot .c)).advance 1)

/-- SBC A,D (R151). -/
def execSbcAD (s : State) : Host.Outcome State Fault Refusal :=
  .next ((s.aluA .sbc (s.getSlot .d)).advance 1)

/-- SBC A,E (R151). -/
def execSbcAE (s : State) : Host.Outcome State Fault Refusal :=
  .next ((s.aluA .sbc (s.getSlot .e)).advance 1)

/-- SBC A,H (R151). -/
def execSbcAH (s : State) : Host.Outcome State Fault Refusal :=
  .next ((s.aluA .sbc (s.getSlot .h)).advance 1)

/-- SBC A,L (R151). -/
def execSbcAL (s : State) : Host.Outcome State Fault Refusal :=
  .next ((s.aluA .sbc (s.getSlot .l)).advance 1)

/-- SBC A,(HL) (R151). -/
def execSbcAIndHl (s : State) : Host.Outcome State Fault Refusal :=
  .next ((s.aluA .sbc (s.getSlot .indHl)).advance 1)

/-- SBC A,A (R151). -/
def execSbcAA (s : State) : Host.Outcome State Fault Refusal :=
  .next ((s.aluA .sbc (s.getSlot .a)).advance 1)

/-- SBC A,d8 (R152). -/
def execSbcAD8 (d8 : Byte) (s : State) : Host.Outcome State Fault Refusal :=
  .next ((s.aluA .sbc d8).advance 2)

/-- AND B (R153). -/
def execAndB (s : State) : Host.Outcome State Fault Refusal :=
  .next ((s.aluA .and (s.getSlot .b)).advance 1)

/-- AND C (R153). -/
def execAndC (s : State) : Host.Outcome State Fault Refusal :=
  .next ((s.aluA .and (s.getSlot .c)).advance 1)

/-- AND D (R153). -/
def execAndD (s : State) : Host.Outcome State Fault Refusal :=
  .next ((s.aluA .and (s.getSlot .d)).advance 1)

/-- AND E (R153). -/
def execAndE (s : State) : Host.Outcome State Fault Refusal :=
  .next ((s.aluA .and (s.getSlot .e)).advance 1)

/-- AND H (R153). -/
def execAndH (s : State) : Host.Outcome State Fault Refusal :=
  .next ((s.aluA .and (s.getSlot .h)).advance 1)

/-- AND L (R153). -/
def execAndL (s : State) : Host.Outcome State Fault Refusal :=
  .next ((s.aluA .and (s.getSlot .l)).advance 1)

/-- AND (HL) (R153). -/
def execAndIndHl (s : State) : Host.Outcome State Fault Refusal :=
  .next ((s.aluA .and (s.getSlot .indHl)).advance 1)

/-- AND A (R153). -/
def execAndA (s : State) : Host.Outcome State Fault Refusal :=
  .next ((s.aluA .and (s.getSlot .a)).advance 1)

/-- AND d8 (R154). -/
def execAndD8 (d8 : Byte) (s : State) : Host.Outcome State Fault Refusal :=
  .next ((s.aluA .and d8).advance 2)

/-- XOR B (R155). -/
def execXorB (s : State) : Host.Outcome State Fault Refusal :=
  .next ((s.aluA .xor (s.getSlot .b)).advance 1)

/-- XOR C (R155). -/
def execXorC (s : State) : Host.Outcome State Fault Refusal :=
  .next ((s.aluA .xor (s.getSlot .c)).advance 1)

/-- XOR D (R155). -/
def execXorD (s : State) : Host.Outcome State Fault Refusal :=
  .next ((s.aluA .xor (s.getSlot .d)).advance 1)

/-- XOR E (R155). -/
def execXorE (s : State) : Host.Outcome State Fault Refusal :=
  .next ((s.aluA .xor (s.getSlot .e)).advance 1)

/-- XOR H (R155). -/
def execXorH (s : State) : Host.Outcome State Fault Refusal :=
  .next ((s.aluA .xor (s.getSlot .h)).advance 1)

/-- XOR L (R155). -/
def execXorL (s : State) : Host.Outcome State Fault Refusal :=
  .next ((s.aluA .xor (s.getSlot .l)).advance 1)

/-- XOR (HL) (R155). -/
def execXorIndHl (s : State) : Host.Outcome State Fault Refusal :=
  .next ((s.aluA .xor (s.getSlot .indHl)).advance 1)

/-- XOR A (R155). -/
def execXorA (s : State) : Host.Outcome State Fault Refusal :=
  .next ((s.aluA .xor (s.getSlot .a)).advance 1)

/-- XOR d8 (R156). -/
def execXorD8 (d8 : Byte) (s : State) : Host.Outcome State Fault Refusal :=
  .next ((s.aluA .xor d8).advance 2)

/-- OR B (R157). -/
def execOrB (s : State) : Host.Outcome State Fault Refusal :=
  .next ((s.aluA .or (s.getSlot .b)).advance 1)

/-- OR C (R157). -/
def execOrC (s : State) : Host.Outcome State Fault Refusal :=
  .next ((s.aluA .or (s.getSlot .c)).advance 1)

/-- OR D (R157). -/
def execOrD (s : State) : Host.Outcome State Fault Refusal :=
  .next ((s.aluA .or (s.getSlot .d)).advance 1)

/-- OR E (R157). -/
def execOrE (s : State) : Host.Outcome State Fault Refusal :=
  .next ((s.aluA .or (s.getSlot .e)).advance 1)

/-- OR H (R157). -/
def execOrH (s : State) : Host.Outcome State Fault Refusal :=
  .next ((s.aluA .or (s.getSlot .h)).advance 1)

/-- OR L (R157). -/
def execOrL (s : State) : Host.Outcome State Fault Refusal :=
  .next ((s.aluA .or (s.getSlot .l)).advance 1)

/-- OR (HL) (R157). -/
def execOrIndHl (s : State) : Host.Outcome State Fault Refusal :=
  .next ((s.aluA .or (s.getSlot .indHl)).advance 1)

/-- OR A (R157). -/
def execOrA (s : State) : Host.Outcome State Fault Refusal :=
  .next ((s.aluA .or (s.getSlot .a)).advance 1)

/-- OR d8 (R158). -/
def execOrD8 (d8 : Byte) (s : State) : Host.Outcome State Fault Refusal :=
  .next ((s.aluA .or d8).advance 2)

/-- CP B (R159). -/
def execCpB (s : State) : Host.Outcome State Fault Refusal :=
  .next ((s.aluA .cp (s.getSlot .b)).advance 1)

/-- CP C (R159). -/
def execCpC (s : State) : Host.Outcome State Fault Refusal :=
  .next ((s.aluA .cp (s.getSlot .c)).advance 1)

/-- CP D (R159). -/
def execCpD (s : State) : Host.Outcome State Fault Refusal :=
  .next ((s.aluA .cp (s.getSlot .d)).advance 1)

/-- CP E (R159). -/
def execCpE (s : State) : Host.Outcome State Fault Refusal :=
  .next ((s.aluA .cp (s.getSlot .e)).advance 1)

/-- CP H (R159). -/
def execCpH (s : State) : Host.Outcome State Fault Refusal :=
  .next ((s.aluA .cp (s.getSlot .h)).advance 1)

/-- CP L (R159). -/
def execCpL (s : State) : Host.Outcome State Fault Refusal :=
  .next ((s.aluA .cp (s.getSlot .l)).advance 1)

/-- CP (HL) (R159). -/
def execCpIndHl (s : State) : Host.Outcome State Fault Refusal :=
  .next ((s.aluA .cp (s.getSlot .indHl)).advance 1)

/-- CP A (R159). -/
def execCpA (s : State) : Host.Outcome State Fault Refusal :=
  .next ((s.aluA .cp (s.getSlot .a)).advance 1)

/-- CP d8 (R160). -/
def execCpD8 (d8 : Byte) (s : State) : Host.Outcome State Fault Refusal :=
  .next ((s.aluA .cp d8).advance 2)

/-- INC B (R161). -/
def execIncB (s : State) : Host.Outcome State Fault Refusal :=
  .next ((s.incSlot .b).advance 1)

/-- INC C (R161). -/
def execIncC (s : State) : Host.Outcome State Fault Refusal :=
  .next ((s.incSlot .c).advance 1)

/-- INC D (R161). -/
def execIncD (s : State) : Host.Outcome State Fault Refusal :=
  .next ((s.incSlot .d).advance 1)

/-- INC E (R161). -/
def execIncE (s : State) : Host.Outcome State Fault Refusal :=
  .next ((s.incSlot .e).advance 1)

/-- INC H (R161). -/
def execIncH (s : State) : Host.Outcome State Fault Refusal :=
  .next ((s.incSlot .h).advance 1)

/-- INC L (R161). -/
def execIncL (s : State) : Host.Outcome State Fault Refusal :=
  .next ((s.incSlot .l).advance 1)

/-- INC A (R161). -/
def execIncA (s : State) : Host.Outcome State Fault Refusal :=
  .next ((s.incSlot .a).advance 1)

/-- INC (HL) (R162). -/
def execIncIndHl (s : State) : Host.Outcome State Fault Refusal :=
  .next ((s.incSlot .indHl).advance 1)

/-- DEC B (R163). -/
def execDecB (s : State) : Host.Outcome State Fault Refusal :=
  .next ((s.decSlot .b).advance 1)

/-- DEC C (R163). -/
def execDecC (s : State) : Host.Outcome State Fault Refusal :=
  .next ((s.decSlot .c).advance 1)

/-- DEC D (R163). -/
def execDecD (s : State) : Host.Outcome State Fault Refusal :=
  .next ((s.decSlot .d).advance 1)

/-- DEC E (R163). -/
def execDecE (s : State) : Host.Outcome State Fault Refusal :=
  .next ((s.decSlot .e).advance 1)

/-- DEC H (R163). -/
def execDecH (s : State) : Host.Outcome State Fault Refusal :=
  .next ((s.decSlot .h).advance 1)

/-- DEC L (R163). -/
def execDecL (s : State) : Host.Outcome State Fault Refusal :=
  .next ((s.decSlot .l).advance 1)

/-- DEC A (R163). -/
def execDecA (s : State) : Host.Outcome State Fault Refusal :=
  .next ((s.decSlot .a).advance 1)

/-- DEC (HL) (R164). -/
def execDecIndHl (s : State) : Host.Outcome State Fault Refusal :=
  .next ((s.decSlot .indHl).advance 1)

/-- DAA (R165). -/
def execDaa (s : State) : Host.Outcome State Fault Refusal :=
  .next ((s.daa).advance 1)

/-- CPL (R166). -/
def execCplAcc (s : State) : Host.Outcome State Fault Refusal :=
  .next ((s.complementA).advance 1)

/-- SCF (R167). -/
def execScf (s : State) : Host.Outcome State Fault Refusal :=
  .next ((s.setCarry).advance 1)

/-- CCF (R168). -/
def execCcf (s : State) : Host.Outcome State Fault Refusal :=
  .next ((s.complementCarry).advance 1)

end Sys2Proof.Machine
end

