-- ==== Sys2Proof/Machine/Control.lean ====
section
/-! DEFINITION. Control flow and the stack (45_control_flow_stack.md R222 to R236). A not-taken form advances PC past its full length. -/

namespace Sys2Proof.Machine

/-- The target of JR: the address of the next instruction plus the sign-extended displacement (R226; decision D16). -/
def State.relTarget (s : State) (e8 : Byte) : Word := s.pc + 2 + sext16 e8

/-- A conditional jump of length `len` (R224, R227). -/
def State.jumpIf (s : State) (cc : Cond) (target : Word) (len : Nat) : State :=
  if s.cond cc then s.jump target else s.advance len

/-- A call or restart of length `len`: the address after it pushed, then the jump (R228, R232). -/
def State.call (s : State) (target : Word) (len : Nat) : State :=
  (s.push16 (s.pc + BitVec.ofNat 16 len)).jump target

/-- A conditional call: not taken, nothing is pushed (R229). -/
def State.callIf (s : State) (cc : Cond) (target : Word) (len : Nat) : State :=
  if s.cond cc then s.call target len else s.advance len

/-- RET: `PC <- pop16()` (R230). -/
def State.ret (s : State) : State := s.drop16.jump s.top16

/-- RET cc: not taken, nothing is popped (R233). -/
def State.retIf (s : State) (cc : Cond) : State :=
  if s.cond cc then s.ret else s.advance 1

/-- POP without its PC: `rp2[p] <- pop16()`; through AF the low nibble of F is dropped (R235, R236). -/
def State.popPair (s : State) (p : StackPair) : State := s.drop16.setStackPair p s.top16

/-- JP a16 (R223). -/
def execJpA16 (a16 : Word) (s : State) : Host.Outcome State Fault Refusal :=
  .next (s.jump a16)

/-- JP NZ,a16 (R224). -/
def execJpNzA16 (a16 : Word) (s : State) : Host.Outcome State Fault Refusal :=
  .next (s.jumpIf .nz a16 3)

/-- JP Z,a16 (R224). -/
def execJpZA16 (a16 : Word) (s : State) : Host.Outcome State Fault Refusal :=
  .next (s.jumpIf .z a16 3)

/-- JP NC,a16 (R224). -/
def execJpNcA16 (a16 : Word) (s : State) : Host.Outcome State Fault Refusal :=
  .next (s.jumpIf .nc a16 3)

/-- JP C,a16 (R224). -/
def execJpCA16 (a16 : Word) (s : State) : Host.Outcome State Fault Refusal :=
  .next (s.jumpIf .c a16 3)

/-- JP HL (R225). -/
def execJpHl (s : State) : Host.Outcome State Fault Refusal :=
  .next (s.jump s.hl)

/-- JR e8 (R226). -/
def execJrE8 (e8 : Byte) (s : State) : Host.Outcome State Fault Refusal :=
  .next (s.jump (s.relTarget e8))

/-- JR NZ,e8 (R227). -/
def execJrNzE8 (e8 : Byte) (s : State) : Host.Outcome State Fault Refusal :=
  .next (s.jumpIf .nz (s.relTarget e8) 2)

/-- JR Z,e8 (R227). -/
def execJrZE8 (e8 : Byte) (s : State) : Host.Outcome State Fault Refusal :=
  .next (s.jumpIf .z (s.relTarget e8) 2)

/-- JR NC,e8 (R227). -/
def execJrNcE8 (e8 : Byte) (s : State) : Host.Outcome State Fault Refusal :=
  .next (s.jumpIf .nc (s.relTarget e8) 2)

/-- JR C,e8 (R227). -/
def execJrCE8 (e8 : Byte) (s : State) : Host.Outcome State Fault Refusal :=
  .next (s.jumpIf .c (s.relTarget e8) 2)

/-- CALL a16 (R228). -/
def execCallA16 (a16 : Word) (s : State) : Host.Outcome State Fault Refusal :=
  .next (s.call a16 3)

/-- CALL NZ,a16 (R229). -/
def execCallNzA16 (a16 : Word) (s : State) : Host.Outcome State Fault Refusal :=
  .next (s.callIf .nz a16 3)

/-- CALL Z,a16 (R229). -/
def execCallZA16 (a16 : Word) (s : State) : Host.Outcome State Fault Refusal :=
  .next (s.callIf .z a16 3)

/-- CALL NC,a16 (R229). -/
def execCallNcA16 (a16 : Word) (s : State) : Host.Outcome State Fault Refusal :=
  .next (s.callIf .nc a16 3)

/-- CALL C,a16 (R229). -/
def execCallCA16 (a16 : Word) (s : State) : Host.Outcome State Fault Refusal :=
  .next (s.callIf .c a16 3)

/-- RET (R230). -/
def execRet (s : State) : Host.Outcome State Fault Refusal :=
  .next (s.ret)

/-- RETI (R231). -/
def execReti (s : State) : Host.Outcome State Fault Refusal :=
  .next (s.returnFromInterrupt)

/-- RST 00H (R232). -/
def execRst00h (s : State) : Host.Outcome State Fault Refusal :=
  .next (s.call 0x0000 1)

/-- RST 08H (R232). -/
def execRst08h (s : State) : Host.Outcome State Fault Refusal :=
  .next (s.call 0x0008 1)

/-- RST 10H (R232). -/
def execRst10h (s : State) : Host.Outcome State Fault Refusal :=
  .next (s.call 0x0010 1)

/-- RST 18H (R232). -/
def execRst18h (s : State) : Host.Outcome State Fault Refusal :=
  .next (s.call 0x0018 1)

/-- RST 20H (R232). -/
def execRst20h (s : State) : Host.Outcome State Fault Refusal :=
  .next (s.call 0x0020 1)

/-- RST 28H (R232). -/
def execRst28h (s : State) : Host.Outcome State Fault Refusal :=
  .next (s.call 0x0028 1)

/-- RST 30H (R232). -/
def execRst30h (s : State) : Host.Outcome State Fault Refusal :=
  .next (s.call 0x0030 1)

/-- RST 38H (R232). -/
def execRst38h (s : State) : Host.Outcome State Fault Refusal :=
  .next (s.call 0x0038 1)

/-- RET NZ (R233). -/
def execRetNz (s : State) : Host.Outcome State Fault Refusal :=
  .next (s.retIf .nz)

/-- RET Z (R233). -/
def execRetZ (s : State) : Host.Outcome State Fault Refusal :=
  .next (s.retIf .z)

/-- RET NC (R233). -/
def execRetNc (s : State) : Host.Outcome State Fault Refusal :=
  .next (s.retIf .nc)

/-- RET C (R233). -/
def execRetC (s : State) : Host.Outcome State Fault Refusal :=
  .next (s.retIf .c)

/-- PUSH BC (R234). -/
def execPushBc (s : State) : Host.Outcome State Fault Refusal :=
  .next ((s.push16 (s.getStackPair .bc)).advance 1)

/-- PUSH DE (R234). -/
def execPushDe (s : State) : Host.Outcome State Fault Refusal :=
  .next ((s.push16 (s.getStackPair .de)).advance 1)

/-- PUSH HL (R234). -/
def execPushHl (s : State) : Host.Outcome State Fault Refusal :=
  .next ((s.push16 (s.getStackPair .hl)).advance 1)

/-- PUSH AF (R234). -/
def execPushAf (s : State) : Host.Outcome State Fault Refusal :=
  .next ((s.push16 (s.getStackPair .af)).advance 1)

/-- POP BC (R235). -/
def execPopBc (s : State) : Host.Outcome State Fault Refusal :=
  .next ((s.popPair .bc).advance 1)

/-- POP DE (R235). -/
def execPopDe (s : State) : Host.Outcome State Fault Refusal :=
  .next ((s.popPair .de).advance 1)

/-- POP HL (R235). -/
def execPopHl (s : State) : Host.Outcome State Fault Refusal :=
  .next ((s.popPair .hl).advance 1)

/-- POP AF (R236). -/
def execPopAf (s : State) : Host.Outcome State Fault Refusal :=
  .next ((s.popPair .af).advance 1)

end Sys2Proof.Machine
end

