-- ==== Sys2Proof/Machine/Loads16.lean ====
section
/-! DEFINITION. The 16-bit loads (41_loads_16bit.md R130 to R133). -/

namespace Sys2Proof.Machine

/-- LD HL,SP+e8 without its PC: HL from `addsp`, Z and N to 0, H and C from the low byte's sum; SP is not changed (R133). -/
def State.loadHlSp (s : State) (e8 : Byte) : State :=
  let o := addsp s.sp e8
  (s.setPair .hl o.r).withFlags false false o.h o.c

/-- LD BC,d16 (R130). -/
def execLdBcD16 (d16 : Word) (s : State) : Host.Outcome State Fault Refusal :=
  .next ((s.setPair .bc d16).advance 3)

/-- LD DE,d16 (R130). -/
def execLdDeD16 (d16 : Word) (s : State) : Host.Outcome State Fault Refusal :=
  .next ((s.setPair .de d16).advance 3)

/-- LD HL,d16 (R130). -/
def execLdHlD16 (d16 : Word) (s : State) : Host.Outcome State Fault Refusal :=
  .next ((s.setPair .hl d16).advance 3)

/-- LD SP,d16 (R130). -/
def execLdSpD16 (d16 : Word) (s : State) : Host.Outcome State Fault Refusal :=
  .next ((s.setPair .sp d16).advance 3)

/-- LD (a16),SP (R131). -/
def execLdIndA16Sp (a16 : Word) (s : State) : Host.Outcome State Fault Refusal :=
  .next ((s.write16 a16 s.sp).advance 3)

/-- LD SP,HL (R132). -/
def execLdSpHl (s : State) : Host.Outcome State Fault Refusal :=
  .next ((s.setPair .sp s.hl).advance 1)

/-- LD HL,SP+e8 (R133). -/
def execLdHlSpE8 (e8 : Byte) (s : State) : Host.Outcome State Fault Refusal :=
  .next ((s.loadHlSp e8).advance 2)

end Sys2Proof.Machine
end

