-- ==== Sys2Proof/Machine/Loads8.lean ====
section
/-! DEFINITION. The 8-bit loads and stores (40_loads_8bit.md R100 to R118). No load of this file writes a flag. An operand that addresses memory
is read before anything is written, so LD H,(HL) uses the old HL; the forms that step HL step it after the access. -/

namespace Sys2Proof.Machine

/-- LD B,B (R100). -/
def execLdBB (s : State) : Host.Outcome State Fault Refusal :=
  .next ((s.setReg .b (s.getReg .b)).advance 1)

/-- LD B,C (R100). -/
def execLdBC (s : State) : Host.Outcome State Fault Refusal :=
  .next ((s.setReg .b (s.getReg .c)).advance 1)

/-- LD B,D (R100). -/
def execLdBD (s : State) : Host.Outcome State Fault Refusal :=
  .next ((s.setReg .b (s.getReg .d)).advance 1)

/-- LD B,E (R100). -/
def execLdBE (s : State) : Host.Outcome State Fault Refusal :=
  .next ((s.setReg .b (s.getReg .e)).advance 1)

/-- LD B,H (R100). -/
def execLdBH (s : State) : Host.Outcome State Fault Refusal :=
  .next ((s.setReg .b (s.getReg .h)).advance 1)

/-- LD B,L (R100). -/
def execLdBL (s : State) : Host.Outcome State Fault Refusal :=
  .next ((s.setReg .b (s.getReg .l)).advance 1)

/-- LD B,A (R100). -/
def execLdBA (s : State) : Host.Outcome State Fault Refusal :=
  .next ((s.setReg .b (s.getReg .a)).advance 1)

/-- LD C,B (R100). -/
def execLdCB (s : State) : Host.Outcome State Fault Refusal :=
  .next ((s.setReg .c (s.getReg .b)).advance 1)

/-- LD C,C (R100). -/
def execLdCC (s : State) : Host.Outcome State Fault Refusal :=
  .next ((s.setReg .c (s.getReg .c)).advance 1)

/-- LD C,D (R100). -/
def execLdCD (s : State) : Host.Outcome State Fault Refusal :=
  .next ((s.setReg .c (s.getReg .d)).advance 1)

/-- LD C,E (R100). -/
def execLdCE (s : State) : Host.Outcome State Fault Refusal :=
  .next ((s.setReg .c (s.getReg .e)).advance 1)

/-- LD C,H (R100). -/
def execLdCH (s : State) : Host.Outcome State Fault Refusal :=
  .next ((s.setReg .c (s.getReg .h)).advance 1)

/-- LD C,L (R100). -/
def execLdCL (s : State) : Host.Outcome State Fault Refusal :=
  .next ((s.setReg .c (s.getReg .l)).advance 1)

/-- LD C,A (R100). -/
def execLdCA (s : State) : Host.Outcome State Fault Refusal :=
  .next ((s.setReg .c (s.getReg .a)).advance 1)

/-- LD D,B (R100). -/
def execLdDB (s : State) : Host.Outcome State Fault Refusal :=
  .next ((s.setReg .d (s.getReg .b)).advance 1)

/-- LD D,C (R100). -/
def execLdDC (s : State) : Host.Outcome State Fault Refusal :=
  .next ((s.setReg .d (s.getReg .c)).advance 1)

/-- LD D,D (R100). -/
def execLdDD (s : State) : Host.Outcome State Fault Refusal :=
  .next ((s.setReg .d (s.getReg .d)).advance 1)

/-- LD D,E (R100). -/
def execLdDE (s : State) : Host.Outcome State Fault Refusal :=
  .next ((s.setReg .d (s.getReg .e)).advance 1)

/-- LD D,H (R100). -/
def execLdDH (s : State) : Host.Outcome State Fault Refusal :=
  .next ((s.setReg .d (s.getReg .h)).advance 1)

/-- LD D,L (R100). -/
def execLdDL (s : State) : Host.Outcome State Fault Refusal :=
  .next ((s.setReg .d (s.getReg .l)).advance 1)

/-- LD D,A (R100). -/
def execLdDA (s : State) : Host.Outcome State Fault Refusal :=
  .next ((s.setReg .d (s.getReg .a)).advance 1)

/-- LD E,B (R100). -/
def execLdEB (s : State) : Host.Outcome State Fault Refusal :=
  .next ((s.setReg .e (s.getReg .b)).advance 1)

/-- LD E,C (R100). -/
def execLdEC (s : State) : Host.Outcome State Fault Refusal :=
  .next ((s.setReg .e (s.getReg .c)).advance 1)

/-- LD E,D (R100). -/
def execLdED (s : State) : Host.Outcome State Fault Refusal :=
  .next ((s.setReg .e (s.getReg .d)).advance 1)

/-- LD E,E (R100). -/
def execLdEE (s : State) : Host.Outcome State Fault Refusal :=
  .next ((s.setReg .e (s.getReg .e)).advance 1)

/-- LD E,H (R100). -/
def execLdEH (s : State) : Host.Outcome State Fault Refusal :=
  .next ((s.setReg .e (s.getReg .h)).advance 1)

/-- LD E,L (R100). -/
def execLdEL (s : State) : Host.Outcome State Fault Refusal :=
  .next ((s.setReg .e (s.getReg .l)).advance 1)

/-- LD E,A (R100). -/
def execLdEA (s : State) : Host.Outcome State Fault Refusal :=
  .next ((s.setReg .e (s.getReg .a)).advance 1)

/-- LD H,B (R100). -/
def execLdHB (s : State) : Host.Outcome State Fault Refusal :=
  .next ((s.setReg .h (s.getReg .b)).advance 1)

/-- LD H,C (R100). -/
def execLdHC (s : State) : Host.Outcome State Fault Refusal :=
  .next ((s.setReg .h (s.getReg .c)).advance 1)

/-- LD H,D (R100). -/
def execLdHD (s : State) : Host.Outcome State Fault Refusal :=
  .next ((s.setReg .h (s.getReg .d)).advance 1)

/-- LD H,E (R100). -/
def execLdHE (s : State) : Host.Outcome State Fault Refusal :=
  .next ((s.setReg .h (s.getReg .e)).advance 1)

/-- LD H,H (R100). -/
def execLdHH (s : State) : Host.Outcome State Fault Refusal :=
  .next ((s.setReg .h (s.getReg .h)).advance 1)

/-- LD H,L (R100). -/
def execLdHL (s : State) : Host.Outcome State Fault Refusal :=
  .next ((s.setReg .h (s.getReg .l)).advance 1)

/-- LD H,A (R100). -/
def execLdHA (s : State) : Host.Outcome State Fault Refusal :=
  .next ((s.setReg .h (s.getReg .a)).advance 1)

/-- LD L,B (R100). -/
def execLdLB (s : State) : Host.Outcome State Fault Refusal :=
  .next ((s.setReg .l (s.getReg .b)).advance 1)

/-- LD L,C (R100). -/
def execLdLC (s : State) : Host.Outcome State Fault Refusal :=
  .next ((s.setReg .l (s.getReg .c)).advance 1)

/-- LD L,D (R100). -/
def execLdLD (s : State) : Host.Outcome State Fault Refusal :=
  .next ((s.setReg .l (s.getReg .d)).advance 1)

/-- LD L,E (R100). -/
def execLdLE (s : State) : Host.Outcome State Fault Refusal :=
  .next ((s.setReg .l (s.getReg .e)).advance 1)

/-- LD L,H (R100). -/
def execLdLH (s : State) : Host.Outcome State Fault Refusal :=
  .next ((s.setReg .l (s.getReg .h)).advance 1)

/-- LD L,L (R100). -/
def execLdLL (s : State) : Host.Outcome State Fault Refusal :=
  .next ((s.setReg .l (s.getReg .l)).advance 1)

/-- LD L,A (R100). -/
def execLdLA (s : State) : Host.Outcome State Fault Refusal :=
  .next ((s.setReg .l (s.getReg .a)).advance 1)

/-- LD A,B (R100). -/
def execLdAB (s : State) : Host.Outcome State Fault Refusal :=
  .next ((s.setReg .a (s.getReg .b)).advance 1)

/-- LD A,C (R100). -/
def execLdAC (s : State) : Host.Outcome State Fault Refusal :=
  .next ((s.setReg .a (s.getReg .c)).advance 1)

/-- LD A,D (R100). -/
def execLdAD (s : State) : Host.Outcome State Fault Refusal :=
  .next ((s.setReg .a (s.getReg .d)).advance 1)

/-- LD A,E (R100). -/
def execLdAE (s : State) : Host.Outcome State Fault Refusal :=
  .next ((s.setReg .a (s.getReg .e)).advance 1)

/-- LD A,H (R100). -/
def execLdAH (s : State) : Host.Outcome State Fault Refusal :=
  .next ((s.setReg .a (s.getReg .h)).advance 1)

/-- LD A,L (R100). -/
def execLdAL (s : State) : Host.Outcome State Fault Refusal :=
  .next ((s.setReg .a (s.getReg .l)).advance 1)

/-- LD A,A (R100). -/
def execLdAA (s : State) : Host.Outcome State Fault Refusal :=
  .next ((s.setReg .a (s.getReg .a)).advance 1)

/-- LD B,(HL) (R101). -/
def execLdBIndHl (s : State) : Host.Outcome State Fault Refusal :=
  .next ((s.setReg .b (s.read8 s.hl)).advance 1)

/-- LD C,(HL) (R101). -/
def execLdCIndHl (s : State) : Host.Outcome State Fault Refusal :=
  .next ((s.setReg .c (s.read8 s.hl)).advance 1)

/-- LD D,(HL) (R101). -/
def execLdDIndHl (s : State) : Host.Outcome State Fault Refusal :=
  .next ((s.setReg .d (s.read8 s.hl)).advance 1)

/-- LD E,(HL) (R101). -/
def execLdEIndHl (s : State) : Host.Outcome State Fault Refusal :=
  .next ((s.setReg .e (s.read8 s.hl)).advance 1)

/-- LD H,(HL) (R101). -/
def execLdHIndHl (s : State) : Host.Outcome State Fault Refusal :=
  .next ((s.setReg .h (s.read8 s.hl)).advance 1)

/-- LD L,(HL) (R101). -/
def execLdLIndHl (s : State) : Host.Outcome State Fault Refusal :=
  .next ((s.setReg .l (s.read8 s.hl)).advance 1)

/-- LD A,(HL) (R101). -/
def execLdAIndHl (s : State) : Host.Outcome State Fault Refusal :=
  .next ((s.setReg .a (s.read8 s.hl)).advance 1)

/-- LD (HL),B (R102). -/
def execLdIndHlB (s : State) : Host.Outcome State Fault Refusal :=
  .next ((s.write8 s.hl (s.getReg .b)).advance 1)

/-- LD (HL),C (R102). -/
def execLdIndHlC (s : State) : Host.Outcome State Fault Refusal :=
  .next ((s.write8 s.hl (s.getReg .c)).advance 1)

/-- LD (HL),D (R102). -/
def execLdIndHlD (s : State) : Host.Outcome State Fault Refusal :=
  .next ((s.write8 s.hl (s.getReg .d)).advance 1)

/-- LD (HL),E (R102). -/
def execLdIndHlE (s : State) : Host.Outcome State Fault Refusal :=
  .next ((s.write8 s.hl (s.getReg .e)).advance 1)

/-- LD (HL),H (R102). -/
def execLdIndHlH (s : State) : Host.Outcome State Fault Refusal :=
  .next ((s.write8 s.hl (s.getReg .h)).advance 1)

/-- LD (HL),L (R102). -/
def execLdIndHlL (s : State) : Host.Outcome State Fault Refusal :=
  .next ((s.write8 s.hl (s.getReg .l)).advance 1)

/-- LD (HL),A (R102). -/
def execLdIndHlA (s : State) : Host.Outcome State Fault Refusal :=
  .next ((s.write8 s.hl (s.getReg .a)).advance 1)

/-- LD B,d8 (R103). -/
def execLdBD8 (d8 : Byte) (s : State) : Host.Outcome State Fault Refusal :=
  .next ((s.setReg .b d8).advance 2)

/-- LD C,d8 (R103). -/
def execLdCD8 (d8 : Byte) (s : State) : Host.Outcome State Fault Refusal :=
  .next ((s.setReg .c d8).advance 2)

/-- LD D,d8 (R103). -/
def execLdDD8 (d8 : Byte) (s : State) : Host.Outcome State Fault Refusal :=
  .next ((s.setReg .d d8).advance 2)

/-- LD E,d8 (R103). -/
def execLdED8 (d8 : Byte) (s : State) : Host.Outcome State Fault Refusal :=
  .next ((s.setReg .e d8).advance 2)

/-- LD H,d8 (R103). -/
def execLdHD8 (d8 : Byte) (s : State) : Host.Outcome State Fault Refusal :=
  .next ((s.setReg .h d8).advance 2)

/-- LD L,d8 (R103). -/
def execLdLD8 (d8 : Byte) (s : State) : Host.Outcome State Fault Refusal :=
  .next ((s.setReg .l d8).advance 2)

/-- LD A,d8 (R103). -/
def execLdAD8 (d8 : Byte) (s : State) : Host.Outcome State Fault Refusal :=
  .next ((s.setReg .a d8).advance 2)

/-- LD (HL),d8 (R104). -/
def execLdIndHlD8 (d8 : Byte) (s : State) : Host.Outcome State Fault Refusal :=
  .next ((s.write8 s.hl d8).advance 2)

/-- LD A,(BC) (R105). -/
def execLdAIndBc (s : State) : Host.Outcome State Fault Refusal :=
  .next ((s.setReg .a (s.read8 s.bc)).advance 1)

/-- LD A,(DE) (R106). -/
def execLdAIndDe (s : State) : Host.Outcome State Fault Refusal :=
  .next ((s.setReg .a (s.read8 s.de)).advance 1)

/-- LD (BC),A (R107). -/
def execLdIndBcA (s : State) : Host.Outcome State Fault Refusal :=
  .next ((s.write8 s.bc s.a).advance 1)

/-- LD (DE),A (R108). -/
def execLdIndDeA (s : State) : Host.Outcome State Fault Refusal :=
  .next ((s.write8 s.de s.a).advance 1)

/-- LD A,(a16) (R109). -/
def execLdAIndA16 (a16 : Word) (s : State) : Host.Outcome State Fault Refusal :=
  .next ((s.setReg .a (s.read8 a16)).advance 3)

/-- LD (a16),A (R110). -/
def execLdIndA16A (a16 : Word) (s : State) : Host.Outcome State Fault Refusal :=
  .next ((s.write8 a16 s.a).advance 3)

/-- LDH A,(a8) (R111). -/
def execLdhAIndA8 (a8 : Byte) (s : State) : Host.Outcome State Fault Refusal :=
  .next ((s.setReg .a (s.read8 (highPage a8))).advance 2)

/-- LDH (a8),A (R112). -/
def execLdhIndA8A (a8 : Byte) (s : State) : Host.Outcome State Fault Refusal :=
  .next ((s.write8 (highPage a8) s.a).advance 2)

/-- LD A,(C) (R113). -/
def execLdAIndC (s : State) : Host.Outcome State Fault Refusal :=
  .next ((s.setReg .a (s.read8 (highPage s.c))).advance 1)

/-- LD (C),A (R114). -/
def execLdIndCA (s : State) : Host.Outcome State Fault Refusal :=
  .next ((s.write8 (highPage s.c) s.a).advance 1)

/-- LD (HL+),A (R115). -/
def execLdIndHlIncA (s : State) : Host.Outcome State Fault Refusal :=
  .next (((s.write8 s.hl s.a).setPair .hl (s.hl + 1)).advance 1)

/-- LD A,(HL+) (R116). -/
def execLdAIndHlInc (s : State) : Host.Outcome State Fault Refusal :=
  .next (((s.setReg .a (s.read8 s.hl)).setPair .hl (s.hl + 1)).advance 1)

/-- LD (HL-),A (R117). -/
def execLdIndHlDecA (s : State) : Host.Outcome State Fault Refusal :=
  .next (((s.write8 s.hl s.a).setPair .hl (s.hl - 1)).advance 1)

/-- LD A,(HL-) (R118). -/
def execLdAIndHlDec (s : State) : Host.Outcome State Fault Refusal :=
  .next (((s.setReg .a (s.read8 s.hl)).setPair .hl (s.hl - 1)).advance 1)

end Sys2Proof.Machine
end

