-- ==== Sys2Proof/Machine/Bits.lean ====
section
/-! DEFINITION. Bit test, reset and set (44_rotate_shift_bit.md R202 to R205). -/

namespace Sys2Proof.Machine

/-- BIT b,s without its PC: Z the inverse of the bit, N to 0, H to 1, C kept; nothing is written back (R202). -/
def State.testBit (s : State) (b : Nat) (z : Slot) : State :=
  s.withFlags (!(s.getSlot z).getLsbD b) false true (s.flag .c)

/-- RES b,s without its PC; no flag (R203). -/
def State.resetBit (s : State) (b : Nat) (z : Slot) : State := s.setSlot z (clearBit (s.getSlot z) b)

/-- SET b,s without its PC; no flag (R204). -/
def State.setSlotBit (s : State) (b : Nat) (z : Slot) : State := s.setSlot z (setBit (s.getSlot z) b)

/-- BIT 0,B (R202). -/
def execBit0B (s : State) : Host.Outcome State Fault Refusal :=
  .next ((s.testBit 0 .b).advance 2)

/-- BIT 0,C (R202). -/
def execBit0C (s : State) : Host.Outcome State Fault Refusal :=
  .next ((s.testBit 0 .c).advance 2)

/-- BIT 0,D (R202). -/
def execBit0D (s : State) : Host.Outcome State Fault Refusal :=
  .next ((s.testBit 0 .d).advance 2)

/-- BIT 0,E (R202). -/
def execBit0E (s : State) : Host.Outcome State Fault Refusal :=
  .next ((s.testBit 0 .e).advance 2)

/-- BIT 0,H (R202). -/
def execBit0H (s : State) : Host.Outcome State Fault Refusal :=
  .next ((s.testBit 0 .h).advance 2)

/-- BIT 0,L (R202). -/
def execBit0L (s : State) : Host.Outcome State Fault Refusal :=
  .next ((s.testBit 0 .l).advance 2)

/-- BIT 0,(HL) (R202). -/
def execBit0IndHl (s : State) : Host.Outcome State Fault Refusal :=
  .next ((s.testBit 0 .indHl).advance 2)

/-- BIT 0,A (R202). -/
def execBit0A (s : State) : Host.Outcome State Fault Refusal :=
  .next ((s.testBit 0 .a).advance 2)

/-- BIT 1,B (R202). -/
def execBit1B (s : State) : Host.Outcome State Fault Refusal :=
  .next ((s.testBit 1 .b).advance 2)

/-- BIT 1,C (R202). -/
def execBit1C (s : State) : Host.Outcome State Fault Refusal :=
  .next ((s.testBit 1 .c).advance 2)

/-- BIT 1,D (R202). -/
def execBit1D (s : State) : Host.Outcome State Fault Refusal :=
  .next ((s.testBit 1 .d).advance 2)

/-- BIT 1,E (R202). -/
def execBit1E (s : State) : Host.Outcome State Fault Refusal :=
  .next ((s.testBit 1 .e).advance 2)

/-- BIT 1,H (R202). -/
def execBit1H (s : State) : Host.Outcome State Fault Refusal :=
  .next ((s.testBit 1 .h).advance 2)

/-- BIT 1,L (R202). -/
def execBit1L (s : State) : Host.Outcome State Fault Refusal :=
  .next ((s.testBit 1 .l).advance 2)

/-- BIT 1,(HL) (R202). -/
def execBit1IndHl (s : State) : Host.Outcome State Fault Refusal :=
  .next ((s.testBit 1 .indHl).advance 2)

/-- BIT 1,A (R202). -/
def execBit1A (s : State) : Host.Outcome State Fault Refusal :=
  .next ((s.testBit 1 .a).advance 2)

/-- BIT 2,B (R202). -/
def execBit2B (s : State) : Host.Outcome State Fault Refusal :=
  .next ((s.testBit 2 .b).advance 2)

/-- BIT 2,C (R202). -/
def execBit2C (s : State) : Host.Outcome State Fault Refusal :=
  .next ((s.testBit 2 .c).advance 2)

/-- BIT 2,D (R202). -/
def execBit2D (s : State) : Host.Outcome State Fault Refusal :=
  .next ((s.testBit 2 .d).advance 2)

/-- BIT 2,E (R202). -/
def execBit2E (s : State) : Host.Outcome State Fault Refusal :=
  .next ((s.testBit 2 .e).advance 2)

/-- BIT 2,H (R202). -/
def execBit2H (s : State) : Host.Outcome State Fault Refusal :=
  .next ((s.testBit 2 .h).advance 2)

/-- BIT 2,L (R202). -/
def execBit2L (s : State) : Host.Outcome State Fault Refusal :=
  .next ((s.testBit 2 .l).advance 2)

/-- BIT 2,(HL) (R202). -/
def execBit2IndHl (s : State) : Host.Outcome State Fault Refusal :=
  .next ((s.testBit 2 .indHl).advance 2)

/-- BIT 2,A (R202). -/
def execBit2A (s : State) : Host.Outcome State Fault Refusal :=
  .next ((s.testBit 2 .a).advance 2)

/-- BIT 3,B (R202). -/
def execBit3B (s : State) : Host.Outcome State Fault Refusal :=
  .next ((s.testBit 3 .b).advance 2)

/-- BIT 3,C (R202). -/
def execBit3C (s : State) : Host.Outcome State Fault Refusal :=
  .next ((s.testBit 3 .c).advance 2)

/-- BIT 3,D (R202). -/
def execBit3D (s : State) : Host.Outcome State Fault Refusal :=
  .next ((s.testBit 3 .d).advance 2)

/-- BIT 3,E (R202). -/
def execBit3E (s : State) : Host.Outcome State Fault Refusal :=
  .next ((s.testBit 3 .e).advance 2)

/-- BIT 3,H (R202). -/
def execBit3H (s : State) : Host.Outcome State Fault Refusal :=
  .next ((s.testBit 3 .h).advance 2)

/-- BIT 3,L (R202). -/
def execBit3L (s : State) : Host.Outcome State Fault Refusal :=
  .next ((s.testBit 3 .l).advance 2)

/-- BIT 3,(HL) (R202). -/
def execBit3IndHl (s : State) : Host.Outcome State Fault Refusal :=
  .next ((s.testBit 3 .indHl).advance 2)

/-- BIT 3,A (R202). -/
def execBit3A (s : State) : Host.Outcome State Fault Refusal :=
  .next ((s.testBit 3 .a).advance 2)

/-- BIT 4,B (R202). -/
def execBit4B (s : State) : Host.Outcome State Fault Refusal :=
  .next ((s.testBit 4 .b).advance 2)

/-- BIT 4,C (R202). -/
def execBit4C (s : State) : Host.Outcome State Fault Refusal :=
  .next ((s.testBit 4 .c).advance 2)

/-- BIT 4,D (R202). -/
def execBit4D (s : State) : Host.Outcome State Fault Refusal :=
  .next ((s.testBit 4 .d).advance 2)

/-- BIT 4,E (R202). -/
def execBit4E (s : State) : Host.Outcome State Fault Refusal :=
  .next ((s.testBit 4 .e).advance 2)

/-- BIT 4,H (R202). -/
def execBit4H (s : State) : Host.Outcome State Fault Refusal :=
  .next ((s.testBit 4 .h).advance 2)

/-- BIT 4,L (R202). -/
def execBit4L (s : State) : Host.Outcome State Fault Refusal :=
  .next ((s.testBit 4 .l).advance 2)

/-- BIT 4,(HL) (R202). -/
def execBit4IndHl (s : State) : Host.Outcome State Fault Refusal :=
  .next ((s.testBit 4 .indHl).advance 2)

/-- BIT 4,A (R202). -/
def execBit4A (s : State) : Host.Outcome State Fault Refusal :=
  .next ((s.testBit 4 .a).advance 2)

/-- BIT 5,B (R202). -/
def execBit5B (s : State) : Host.Outcome State Fault Refusal :=
  .next ((s.testBit 5 .b).advance 2)

/-- BIT 5,C (R202). -/
def execBit5C (s : State) : Host.Outcome State Fault Refusal :=
  .next ((s.testBit 5 .c).advance 2)

/-- BIT 5,D (R202). -/
def execBit5D (s : State) : Host.Outcome State Fault Refusal :=
  .next ((s.testBit 5 .d).advance 2)

/-- BIT 5,E (R202). -/
def execBit5E (s : State) : Host.Outcome State Fault Refusal :=
  .next ((s.testBit 5 .e).advance 2)

/-- BIT 5,H (R202). -/
def execBit5H (s : State) : Host.Outcome State Fault Refusal :=
  .next ((s.testBit 5 .h).advance 2)

/-- BIT 5,L (R202). -/
def execBit5L (s : State) : Host.Outcome State Fault Refusal :=
  .next ((s.testBit 5 .l).advance 2)

/-- BIT 5,(HL) (R202). -/
def execBit5IndHl (s : State) : Host.Outcome State Fault Refusal :=
  .next ((s.testBit 5 .indHl).advance 2)

/-- BIT 5,A (R202). -/
def execBit5A (s : State) : Host.Outcome State Fault Refusal :=
  .next ((s.testBit 5 .a).advance 2)

/-- BIT 6,B (R202). -/
def execBit6B (s : State) : Host.Outcome State Fault Refusal :=
  .next ((s.testBit 6 .b).advance 2)

/-- BIT 6,C (R202). -/
def execBit6C (s : State) : Host.Outcome State Fault Refusal :=
  .next ((s.testBit 6 .c).advance 2)

/-- BIT 6,D (R202). -/
def execBit6D (s : State) : Host.Outcome State Fault Refusal :=
  .next ((s.testBit 6 .d).advance 2)

/-- BIT 6,E (R202). -/
def execBit6E (s : State) : Host.Outcome State Fault Refusal :=
  .next ((s.testBit 6 .e).advance 2)

/-- BIT 6,H (R202). -/
def execBit6H (s : State) : Host.Outcome State Fault Refusal :=
  .next ((s.testBit 6 .h).advance 2)

/-- BIT 6,L (R202). -/
def execBit6L (s : State) : Host.Outcome State Fault Refusal :=
  .next ((s.testBit 6 .l).advance 2)

/-- BIT 6,(HL) (R202). -/
def execBit6IndHl (s : State) : Host.Outcome State Fault Refusal :=
  .next ((s.testBit 6 .indHl).advance 2)

/-- BIT 6,A (R202). -/
def execBit6A (s : State) : Host.Outcome State Fault Refusal :=
  .next ((s.testBit 6 .a).advance 2)

/-- BIT 7,B (R202). -/
def execBit7B (s : State) : Host.Outcome State Fault Refusal :=
  .next ((s.testBit 7 .b).advance 2)

/-- BIT 7,C (R202). -/
def execBit7C (s : State) : Host.Outcome State Fault Refusal :=
  .next ((s.testBit 7 .c).advance 2)

/-- BIT 7,D (R202). -/
def execBit7D (s : State) : Host.Outcome State Fault Refusal :=
  .next ((s.testBit 7 .d).advance 2)

/-- BIT 7,E (R202). -/
def execBit7E (s : State) : Host.Outcome State Fault Refusal :=
  .next ((s.testBit 7 .e).advance 2)

/-- BIT 7,H (R202). -/
def execBit7H (s : State) : Host.Outcome State Fault Refusal :=
  .next ((s.testBit 7 .h).advance 2)

/-- BIT 7,L (R202). -/
def execBit7L (s : State) : Host.Outcome State Fault Refusal :=
  .next ((s.testBit 7 .l).advance 2)

/-- BIT 7,(HL) (R202). -/
def execBit7IndHl (s : State) : Host.Outcome State Fault Refusal :=
  .next ((s.testBit 7 .indHl).advance 2)

/-- BIT 7,A (R202). -/
def execBit7A (s : State) : Host.Outcome State Fault Refusal :=
  .next ((s.testBit 7 .a).advance 2)

/-- RES 0,B (R203). -/
def execRes0B (s : State) : Host.Outcome State Fault Refusal :=
  .next ((s.resetBit 0 .b).advance 2)

/-- RES 0,C (R203). -/
def execRes0C (s : State) : Host.Outcome State Fault Refusal :=
  .next ((s.resetBit 0 .c).advance 2)

/-- RES 0,D (R203). -/
def execRes0D (s : State) : Host.Outcome State Fault Refusal :=
  .next ((s.resetBit 0 .d).advance 2)

/-- RES 0,E (R203). -/
def execRes0E (s : State) : Host.Outcome State Fault Refusal :=
  .next ((s.resetBit 0 .e).advance 2)

/-- RES 0,H (R203). -/
def execRes0H (s : State) : Host.Outcome State Fault Refusal :=
  .next ((s.resetBit 0 .h).advance 2)

/-- RES 0,L (R203). -/
def execRes0L (s : State) : Host.Outcome State Fault Refusal :=
  .next ((s.resetBit 0 .l).advance 2)

/-- RES 0,(HL) (R203). -/
def execRes0IndHl (s : State) : Host.Outcome State Fault Refusal :=
  .next ((s.resetBit 0 .indHl).advance 2)

/-- RES 0,A (R203). -/
def execRes0A (s : State) : Host.Outcome State Fault Refusal :=
  .next ((s.resetBit 0 .a).advance 2)

/-- RES 1,B (R203). -/
def execRes1B (s : State) : Host.Outcome State Fault Refusal :=
  .next ((s.resetBit 1 .b).advance 2)

/-- RES 1,C (R203). -/
def execRes1C (s : State) : Host.Outcome State Fault Refusal :=
  .next ((s.resetBit 1 .c).advance 2)

/-- RES 1,D (R203). -/
def execRes1D (s : State) : Host.Outcome State Fault Refusal :=
  .next ((s.resetBit 1 .d).advance 2)

/-- RES 1,E (R203). -/
def execRes1E (s : State) : Host.Outcome State Fault Refusal :=
  .next ((s.resetBit 1 .e).advance 2)

/-- RES 1,H (R203). -/
def execRes1H (s : State) : Host.Outcome State Fault Refusal :=
  .next ((s.resetBit 1 .h).advance 2)

/-- RES 1,L (R203). -/
def execRes1L (s : State) : Host.Outcome State Fault Refusal :=
  .next ((s.resetBit 1 .l).advance 2)

/-- RES 1,(HL) (R203). -/
def execRes1IndHl (s : State) : Host.Outcome State Fault Refusal :=
  .next ((s.resetBit 1 .indHl).advance 2)

/-- RES 1,A (R203). -/
def execRes1A (s : State) : Host.Outcome State Fault Refusal :=
  .next ((s.resetBit 1 .a).advance 2)

/-- RES 2,B (R203). -/
def execRes2B (s : State) : Host.Outcome State Fault Refusal :=
  .next ((s.resetBit 2 .b).advance 2)

/-- RES 2,C (R203). -/
def execRes2C (s : State) : Host.Outcome State Fault Refusal :=
  .next ((s.resetBit 2 .c).advance 2)

/-- RES 2,D (R203). -/
def execRes2D (s : State) : Host.Outcome State Fault Refusal :=
  .next ((s.resetBit 2 .d).advance 2)

/-- RES 2,E (R203). -/
def execRes2E (s : State) : Host.Outcome State Fault Refusal :=
  .next ((s.resetBit 2 .e).advance 2)

/-- RES 2,H (R203). -/
def execRes2H (s : State) : Host.Outcome State Fault Refusal :=
  .next ((s.resetBit 2 .h).advance 2)

/-- RES 2,L (R203). -/
def execRes2L (s : State) : Host.Outcome State Fault Refusal :=
  .next ((s.resetBit 2 .l).advance 2)

/-- RES 2,(HL) (R203). -/
def execRes2IndHl (s : State) : Host.Outcome State Fault Refusal :=
  .next ((s.resetBit 2 .indHl).advance 2)

/-- RES 2,A (R203). -/
def execRes2A (s : State) : Host.Outcome State Fault Refusal :=
  .next ((s.resetBit 2 .a).advance 2)

/-- RES 3,B (R203). -/
def execRes3B (s : State) : Host.Outcome State Fault Refusal :=
  .next ((s.resetBit 3 .b).advance 2)

/-- RES 3,C (R203). -/
def execRes3C (s : State) : Host.Outcome State Fault Refusal :=
  .next ((s.resetBit 3 .c).advance 2)

/-- RES 3,D (R203). -/
def execRes3D (s : State) : Host.Outcome State Fault Refusal :=
  .next ((s.resetBit 3 .d).advance 2)

/-- RES 3,E (R203). -/
def execRes3E (s : State) : Host.Outcome State Fault Refusal :=
  .next ((s.resetBit 3 .e).advance 2)

/-- RES 3,H (R203). -/
def execRes3H (s : State) : Host.Outcome State Fault Refusal :=
  .next ((s.resetBit 3 .h).advance 2)

/-- RES 3,L (R203). -/
def execRes3L (s : State) : Host.Outcome State Fault Refusal :=
  .next ((s.resetBit 3 .l).advance 2)

/-- RES 3,(HL) (R203). -/
def execRes3IndHl (s : State) : Host.Outcome State Fault Refusal :=
  .next ((s.resetBit 3 .indHl).advance 2)

/-- RES 3,A (R203). -/
def execRes3A (s : State) : Host.Outcome State Fault Refusal :=
  .next ((s.resetBit 3 .a).advance 2)

/-- RES 4,B (R203). -/
def execRes4B (s : State) : Host.Outcome State Fault Refusal :=
  .next ((s.resetBit 4 .b).advance 2)

/-- RES 4,C (R203). -/
def execRes4C (s : State) : Host.Outcome State Fault Refusal :=
  .next ((s.resetBit 4 .c).advance 2)

/-- RES 4,D (R203). -/
def execRes4D (s : State) : Host.Outcome State Fault Refusal :=
  .next ((s.resetBit 4 .d).advance 2)

/-- RES 4,E (R203). -/
def execRes4E (s : State) : Host.Outcome State Fault Refusal :=
  .next ((s.resetBit 4 .e).advance 2)

/-- RES 4,H (R203). -/
def execRes4H (s : State) : Host.Outcome State Fault Refusal :=
  .next ((s.resetBit 4 .h).advance 2)

/-- RES 4,L (R203). -/
def execRes4L (s : State) : Host.Outcome State Fault Refusal :=
  .next ((s.resetBit 4 .l).advance 2)

/-- RES 4,(HL) (R203). -/
def execRes4IndHl (s : State) : Host.Outcome State Fault Refusal :=
  .next ((s.resetBit 4 .indHl).advance 2)

/-- RES 4,A (R203). -/
def execRes4A (s : State) : Host.Outcome State Fault Refusal :=
  .next ((s.resetBit 4 .a).advance 2)

/-- RES 5,B (R203). -/
def execRes5B (s : State) : Host.Outcome State Fault Refusal :=
  .next ((s.resetBit 5 .b).advance 2)

/-- RES 5,C (R203). -/
def execRes5C (s : State) : Host.Outcome State Fault Refusal :=
  .next ((s.resetBit 5 .c).advance 2)

/-- RES 5,D (R203). -/
def execRes5D (s : State) : Host.Outcome State Fault Refusal :=
  .next ((s.resetBit 5 .d).advance 2)

/-- RES 5,E (R203). -/
def execRes5E (s : State) : Host.Outcome State Fault Refusal :=
  .next ((s.resetBit 5 .e).advance 2)

/-- RES 5,H (R203). -/
def execRes5H (s : State) : Host.Outcome State Fault Refusal :=
  .next ((s.resetBit 5 .h).advance 2)

/-- RES 5,L (R203). -/
def execRes5L (s : State) : Host.Outcome State Fault Refusal :=
  .next ((s.resetBit 5 .l).advance 2)

/-- RES 5,(HL) (R203). -/
def execRes5IndHl (s : State) : Host.Outcome State Fault Refusal :=
  .next ((s.resetBit 5 .indHl).advance 2)

/-- RES 5,A (R203). -/
def execRes5A (s : State) : Host.Outcome State Fault Refusal :=
  .next ((s.resetBit 5 .a).advance 2)

/-- RES 6,B (R203). -/
def execRes6B (s : State) : Host.Outcome State Fault Refusal :=
  .next ((s.resetBit 6 .b).advance 2)

/-- RES 6,C (R203). -/
def execRes6C (s : State) : Host.Outcome State Fault Refusal :=
  .next ((s.resetBit 6 .c).advance 2)

/-- RES 6,D (R203). -/
def execRes6D (s : State) : Host.Outcome State Fault Refusal :=
  .next ((s.resetBit 6 .d).advance 2)

/-- RES 6,E (R203). -/
def execRes6E (s : State) : Host.Outcome State Fault Refusal :=
  .next ((s.resetBit 6 .e).advance 2)

/-- RES 6,H (R203). -/
def execRes6H (s : State) : Host.Outcome State Fault Refusal :=
  .next ((s.resetBit 6 .h).advance 2)

/-- RES 6,L (R203). -/
def execRes6L (s : State) : Host.Outcome State Fault Refusal :=
  .next ((s.resetBit 6 .l).advance 2)

/-- RES 6,(HL) (R203). -/
def execRes6IndHl (s : State) : Host.Outcome State Fault Refusal :=
  .next ((s.resetBit 6 .indHl).advance 2)

/-- RES 6,A (R203). -/
def execRes6A (s : State) : Host.Outcome State Fault Refusal :=
  .next ((s.resetBit 6 .a).advance 2)

/-- RES 7,B (R203). -/
def execRes7B (s : State) : Host.Outcome State Fault Refusal :=
  .next ((s.resetBit 7 .b).advance 2)

/-- RES 7,C (R203). -/
def execRes7C (s : State) : Host.Outcome State Fault Refusal :=
  .next ((s.resetBit 7 .c).advance 2)

/-- RES 7,D (R203). -/
def execRes7D (s : State) : Host.Outcome State Fault Refusal :=
  .next ((s.resetBit 7 .d).advance 2)

/-- RES 7,E (R203). -/
def execRes7E (s : State) : Host.Outcome State Fault Refusal :=
  .next ((s.resetBit 7 .e).advance 2)

/-- RES 7,H (R203). -/
def execRes7H (s : State) : Host.Outcome State Fault Refusal :=
  .next ((s.resetBit 7 .h).advance 2)

/-- RES 7,L (R203). -/
def execRes7L (s : State) : Host.Outcome State Fault Refusal :=
  .next ((s.resetBit 7 .l).advance 2)

/-- RES 7,(HL) (R203). -/
def execRes7IndHl (s : State) : Host.Outcome State Fault Refusal :=
  .next ((s.resetBit 7 .indHl).advance 2)

/-- RES 7,A (R203). -/
def execRes7A (s : State) : Host.Outcome State Fault Refusal :=
  .next ((s.resetBit 7 .a).advance 2)

/-- SET 0,B (R204). -/
def execSet0B (s : State) : Host.Outcome State Fault Refusal :=
  .next ((s.setSlotBit 0 .b).advance 2)

/-- SET 0,C (R204). -/
def execSet0C (s : State) : Host.Outcome State Fault Refusal :=
  .next ((s.setSlotBit 0 .c).advance 2)

/-- SET 0,D (R204). -/
def execSet0D (s : State) : Host.Outcome State Fault Refusal :=
  .next ((s.setSlotBit 0 .d).advance 2)

/-- SET 0,E (R204). -/
def execSet0E (s : State) : Host.Outcome State Fault Refusal :=
  .next ((s.setSlotBit 0 .e).advance 2)

/-- SET 0,H (R204). -/
def execSet0H (s : State) : Host.Outcome State Fault Refusal :=
  .next ((s.setSlotBit 0 .h).advance 2)

/-- SET 0,L (R204). -/
def execSet0L (s : State) : Host.Outcome State Fault Refusal :=
  .next ((s.setSlotBit 0 .l).advance 2)

/-- SET 0,(HL) (R204). -/
def execSet0IndHl (s : State) : Host.Outcome State Fault Refusal :=
  .next ((s.setSlotBit 0 .indHl).advance 2)

/-- SET 0,A (R204). -/
def execSet0A (s : State) : Host.Outcome State Fault Refusal :=
  .next ((s.setSlotBit 0 .a).advance 2)

/-- SET 1,B (R204). -/
def execSet1B (s : State) : Host.Outcome State Fault Refusal :=
  .next ((s.setSlotBit 1 .b).advance 2)

/-- SET 1,C (R204). -/
def execSet1C (s : State) : Host.Outcome State Fault Refusal :=
  .next ((s.setSlotBit 1 .c).advance 2)

/-- SET 1,D (R204). -/
def execSet1D (s : State) : Host.Outcome State Fault Refusal :=
  .next ((s.setSlotBit 1 .d).advance 2)

/-- SET 1,E (R204). -/
def execSet1E (s : State) : Host.Outcome State Fault Refusal :=
  .next ((s.setSlotBit 1 .e).advance 2)

/-- SET 1,H (R204). -/
def execSet1H (s : State) : Host.Outcome State Fault Refusal :=
  .next ((s.setSlotBit 1 .h).advance 2)

/-- SET 1,L (R204). -/
def execSet1L (s : State) : Host.Outcome State Fault Refusal :=
  .next ((s.setSlotBit 1 .l).advance 2)

/-- SET 1,(HL) (R204). -/
def execSet1IndHl (s : State) : Host.Outcome State Fault Refusal :=
  .next ((s.setSlotBit 1 .indHl).advance 2)

/-- SET 1,A (R204). -/
def execSet1A (s : State) : Host.Outcome State Fault Refusal :=
  .next ((s.setSlotBit 1 .a).advance 2)

/-- SET 2,B (R204). -/
def execSet2B (s : State) : Host.Outcome State Fault Refusal :=
  .next ((s.setSlotBit 2 .b).advance 2)

/-- SET 2,C (R204). -/
def execSet2C (s : State) : Host.Outcome State Fault Refusal :=
  .next ((s.setSlotBit 2 .c).advance 2)

/-- SET 2,D (R204). -/
def execSet2D (s : State) : Host.Outcome State Fault Refusal :=
  .next ((s.setSlotBit 2 .d).advance 2)

/-- SET 2,E (R204). -/
def execSet2E (s : State) : Host.Outcome State Fault Refusal :=
  .next ((s.setSlotBit 2 .e).advance 2)

/-- SET 2,H (R204). -/
def execSet2H (s : State) : Host.Outcome State Fault Refusal :=
  .next ((s.setSlotBit 2 .h).advance 2)

/-- SET 2,L (R204). -/
def execSet2L (s : State) : Host.Outcome State Fault Refusal :=
  .next ((s.setSlotBit 2 .l).advance 2)

/-- SET 2,(HL) (R204). -/
def execSet2IndHl (s : State) : Host.Outcome State Fault Refusal :=
  .next ((s.setSlotBit 2 .indHl).advance 2)

/-- SET 2,A (R204). -/
def execSet2A (s : State) : Host.Outcome State Fault Refusal :=
  .next ((s.setSlotBit 2 .a).advance 2)

/-- SET 3,B (R204). -/
def execSet3B (s : State) : Host.Outcome State Fault Refusal :=
  .next ((s.setSlotBit 3 .b).advance 2)

/-- SET 3,C (R204). -/
def execSet3C (s : State) : Host.Outcome State Fault Refusal :=
  .next ((s.setSlotBit 3 .c).advance 2)

/-- SET 3,D (R204). -/
def execSet3D (s : State) : Host.Outcome State Fault Refusal :=
  .next ((s.setSlotBit 3 .d).advance 2)

/-- SET 3,E (R204). -/
def execSet3E (s : State) : Host.Outcome State Fault Refusal :=
  .next ((s.setSlotBit 3 .e).advance 2)

/-- SET 3,H (R204). -/
def execSet3H (s : State) : Host.Outcome State Fault Refusal :=
  .next ((s.setSlotBit 3 .h).advance 2)

/-- SET 3,L (R204). -/
def execSet3L (s : State) : Host.Outcome State Fault Refusal :=
  .next ((s.setSlotBit 3 .l).advance 2)

/-- SET 3,(HL) (R204). -/
def execSet3IndHl (s : State) : Host.Outcome State Fault Refusal :=
  .next ((s.setSlotBit 3 .indHl).advance 2)

/-- SET 3,A (R204). -/
def execSet3A (s : State) : Host.Outcome State Fault Refusal :=
  .next ((s.setSlotBit 3 .a).advance 2)

/-- SET 4,B (R204). -/
def execSet4B (s : State) : Host.Outcome State Fault Refusal :=
  .next ((s.setSlotBit 4 .b).advance 2)

/-- SET 4,C (R204). -/
def execSet4C (s : State) : Host.Outcome State Fault Refusal :=
  .next ((s.setSlotBit 4 .c).advance 2)

/-- SET 4,D (R204). -/
def execSet4D (s : State) : Host.Outcome State Fault Refusal :=
  .next ((s.setSlotBit 4 .d).advance 2)

/-- SET 4,E (R204). -/
def execSet4E (s : State) : Host.Outcome State Fault Refusal :=
  .next ((s.setSlotBit 4 .e).advance 2)

/-- SET 4,H (R204). -/
def execSet4H (s : State) : Host.Outcome State Fault Refusal :=
  .next ((s.setSlotBit 4 .h).advance 2)

/-- SET 4,L (R204). -/
def execSet4L (s : State) : Host.Outcome State Fault Refusal :=
  .next ((s.setSlotBit 4 .l).advance 2)

/-- SET 4,(HL) (R204). -/
def execSet4IndHl (s : State) : Host.Outcome State Fault Refusal :=
  .next ((s.setSlotBit 4 .indHl).advance 2)

/-- SET 4,A (R204). -/
def execSet4A (s : State) : Host.Outcome State Fault Refusal :=
  .next ((s.setSlotBit 4 .a).advance 2)

/-- SET 5,B (R204). -/
def execSet5B (s : State) : Host.Outcome State Fault Refusal :=
  .next ((s.setSlotBit 5 .b).advance 2)

/-- SET 5,C (R204). -/
def execSet5C (s : State) : Host.Outcome State Fault Refusal :=
  .next ((s.setSlotBit 5 .c).advance 2)

/-- SET 5,D (R204). -/
def execSet5D (s : State) : Host.Outcome State Fault Refusal :=
  .next ((s.setSlotBit 5 .d).advance 2)

/-- SET 5,E (R204). -/
def execSet5E (s : State) : Host.Outcome State Fault Refusal :=
  .next ((s.setSlotBit 5 .e).advance 2)

/-- SET 5,H (R204). -/
def execSet5H (s : State) : Host.Outcome State Fault Refusal :=
  .next ((s.setSlotBit 5 .h).advance 2)

/-- SET 5,L (R204). -/
def execSet5L (s : State) : Host.Outcome State Fault Refusal :=
  .next ((s.setSlotBit 5 .l).advance 2)

/-- SET 5,(HL) (R204). -/
def execSet5IndHl (s : State) : Host.Outcome State Fault Refusal :=
  .next ((s.setSlotBit 5 .indHl).advance 2)

/-- SET 5,A (R204). -/
def execSet5A (s : State) : Host.Outcome State Fault Refusal :=
  .next ((s.setSlotBit 5 .a).advance 2)

/-- SET 6,B (R204). -/
def execSet6B (s : State) : Host.Outcome State Fault Refusal :=
  .next ((s.setSlotBit 6 .b).advance 2)

/-- SET 6,C (R204). -/
def execSet6C (s : State) : Host.Outcome State Fault Refusal :=
  .next ((s.setSlotBit 6 .c).advance 2)

/-- SET 6,D (R204). -/
def execSet6D (s : State) : Host.Outcome State Fault Refusal :=
  .next ((s.setSlotBit 6 .d).advance 2)

/-- SET 6,E (R204). -/
def execSet6E (s : State) : Host.Outcome State Fault Refusal :=
  .next ((s.setSlotBit 6 .e).advance 2)

/-- SET 6,H (R204). -/
def execSet6H (s : State) : Host.Outcome State Fault Refusal :=
  .next ((s.setSlotBit 6 .h).advance 2)

/-- SET 6,L (R204). -/
def execSet6L (s : State) : Host.Outcome State Fault Refusal :=
  .next ((s.setSlotBit 6 .l).advance 2)

/-- SET 6,(HL) (R204). -/
def execSet6IndHl (s : State) : Host.Outcome State Fault Refusal :=
  .next ((s.setSlotBit 6 .indHl).advance 2)

/-- SET 6,A (R204). -/
def execSet6A (s : State) : Host.Outcome State Fault Refusal :=
  .next ((s.setSlotBit 6 .a).advance 2)

/-- SET 7,B (R204). -/
def execSet7B (s : State) : Host.Outcome State Fault Refusal :=
  .next ((s.setSlotBit 7 .b).advance 2)

/-- SET 7,C (R204). -/
def execSet7C (s : State) : Host.Outcome State Fault Refusal :=
  .next ((s.setSlotBit 7 .c).advance 2)

/-- SET 7,D (R204). -/
def execSet7D (s : State) : Host.Outcome State Fault Refusal :=
  .next ((s.setSlotBit 7 .d).advance 2)

/-- SET 7,E (R204). -/
def execSet7E (s : State) : Host.Outcome State Fault Refusal :=
  .next ((s.setSlotBit 7 .e).advance 2)

/-- SET 7,H (R204). -/
def execSet7H (s : State) : Host.Outcome State Fault Refusal :=
  .next ((s.setSlotBit 7 .h).advance 2)

/-- SET 7,L (R204). -/
def execSet7L (s : State) : Host.Outcome State Fault Refusal :=
  .next ((s.setSlotBit 7 .l).advance 2)

/-- SET 7,(HL) (R204). -/
def execSet7IndHl (s : State) : Host.Outcome State Fault Refusal :=
  .next ((s.setSlotBit 7 .indHl).advance 2)

/-- SET 7,A (R204). -/
def execSet7A (s : State) : Host.Outcome State Fault Refusal :=
  .next ((s.setSlotBit 7 .a).advance 2)

end Sys2Proof.Machine
end

