-- ==== Sys2Proof/Machine/Rotate.lean ====
section
/-! DEFINITION. Rotates, shifts and SWAP (44_rotate_shift_bit.md R190 to R201, R205). -/

namespace Sys2Proof.Machine

/-- An accumulator-only rotate without its PC: Z is forced to 0 (R190 to R193). -/
def State.rotateA (s : State) (op : RotOp) : State :=
  (s.setReg .a (rotResult op s.a (s.flag .c))).withFlags false false false (rotCarry op s.a)

/-- A rotate, shift or SWAP of a slot without its PC: the slot is read once, written once, Z is from the result (R194 to R201, R205). -/
def State.rotateSlot (s : State) (op : RotOp) (z : Slot) : State :=
  let v := s.getSlot z
  let r := rotResult op v (s.flag .c)
  (s.setSlot z r).withFlags (r == 0) false false (rotCarry op v)

/-- RLCA (R190). -/
def execRlcAcc (s : State) : Host.Outcome State Fault Refusal :=
  .next ((s.rotateA .rlc).advance 1)

/-- RRCA (R191). -/
def execRrcAcc (s : State) : Host.Outcome State Fault Refusal :=
  .next ((s.rotateA .rrc).advance 1)

/-- RLA (R192). -/
def execRlAcc (s : State) : Host.Outcome State Fault Refusal :=
  .next ((s.rotateA .rl).advance 1)

/-- RRA (R193). -/
def execRrAcc (s : State) : Host.Outcome State Fault Refusal :=
  .next ((s.rotateA .rr).advance 1)

/-- RLC B (R194). -/
def execRlcB (s : State) : Host.Outcome State Fault Refusal :=
  .next ((s.rotateSlot .rlc .b).advance 2)

/-- RLC C (R194). -/
def execRlcC (s : State) : Host.Outcome State Fault Refusal :=
  .next ((s.rotateSlot .rlc .c).advance 2)

/-- RLC D (R194). -/
def execRlcD (s : State) : Host.Outcome State Fault Refusal :=
  .next ((s.rotateSlot .rlc .d).advance 2)

/-- RLC E (R194). -/
def execRlcE (s : State) : Host.Outcome State Fault Refusal :=
  .next ((s.rotateSlot .rlc .e).advance 2)

/-- RLC H (R194). -/
def execRlcH (s : State) : Host.Outcome State Fault Refusal :=
  .next ((s.rotateSlot .rlc .h).advance 2)

/-- RLC L (R194). -/
def execRlcL (s : State) : Host.Outcome State Fault Refusal :=
  .next ((s.rotateSlot .rlc .l).advance 2)

/-- RLC (HL) (R194). -/
def execRlcIndHl (s : State) : Host.Outcome State Fault Refusal :=
  .next ((s.rotateSlot .rlc .indHl).advance 2)

/-- RLC A (R194). -/
def execRlcA (s : State) : Host.Outcome State Fault Refusal :=
  .next ((s.rotateSlot .rlc .a).advance 2)

/-- RRC B (R195). -/
def execRrcB (s : State) : Host.Outcome State Fault Refusal :=
  .next ((s.rotateSlot .rrc .b).advance 2)

/-- RRC C (R195). -/
def execRrcC (s : State) : Host.Outcome State Fault Refusal :=
  .next ((s.rotateSlot .rrc .c).advance 2)

/-- RRC D (R195). -/
def execRrcD (s : State) : Host.Outcome State Fault Refusal :=
  .next ((s.rotateSlot .rrc .d).advance 2)

/-- RRC E (R195). -/
def execRrcE (s : State) : Host.Outcome State Fault Refusal :=
  .next ((s.rotateSlot .rrc .e).advance 2)

/-- RRC H (R195). -/
def execRrcH (s : State) : Host.Outcome State Fault Refusal :=
  .next ((s.rotateSlot .rrc .h).advance 2)

/-- RRC L (R195). -/
def execRrcL (s : State) : Host.Outcome State Fault Refusal :=
  .next ((s.rotateSlot .rrc .l).advance 2)

/-- RRC (HL) (R195). -/
def execRrcIndHl (s : State) : Host.Outcome State Fault Refusal :=
  .next ((s.rotateSlot .rrc .indHl).advance 2)

/-- RRC A (R195). -/
def execRrcA (s : State) : Host.Outcome State Fault Refusal :=
  .next ((s.rotateSlot .rrc .a).advance 2)

/-- RL B (R196). -/
def execRlB (s : State) : Host.Outcome State Fault Refusal :=
  .next ((s.rotateSlot .rl .b).advance 2)

/-- RL C (R196). -/
def execRlC (s : State) : Host.Outcome State Fault Refusal :=
  .next ((s.rotateSlot .rl .c).advance 2)

/-- RL D (R196). -/
def execRlD (s : State) : Host.Outcome State Fault Refusal :=
  .next ((s.rotateSlot .rl .d).advance 2)

/-- RL E (R196). -/
def execRlE (s : State) : Host.Outcome State Fault Refusal :=
  .next ((s.rotateSlot .rl .e).advance 2)

/-- RL H (R196). -/
def execRlH (s : State) : Host.Outcome State Fault Refusal :=
  .next ((s.rotateSlot .rl .h).advance 2)

/-- RL L (R196). -/
def execRlL (s : State) : Host.Outcome State Fault Refusal :=
  .next ((s.rotateSlot .rl .l).advance 2)

/-- RL (HL) (R196). -/
def execRlIndHl (s : State) : Host.Outcome State Fault Refusal :=
  .next ((s.rotateSlot .rl .indHl).advance 2)

/-- RL A (R196). -/
def execRlA (s : State) : Host.Outcome State Fault Refusal :=
  .next ((s.rotateSlot .rl .a).advance 2)

/-- RR B (R197). -/
def execRrB (s : State) : Host.Outcome State Fault Refusal :=
  .next ((s.rotateSlot .rr .b).advance 2)

/-- RR C (R197). -/
def execRrC (s : State) : Host.Outcome State Fault Refusal :=
  .next ((s.rotateSlot .rr .c).advance 2)

/-- RR D (R197). -/
def execRrD (s : State) : Host.Outcome State Fault Refusal :=
  .next ((s.rotateSlot .rr .d).advance 2)

/-- RR E (R197). -/
def execRrE (s : State) : Host.Outcome State Fault Refusal :=
  .next ((s.rotateSlot .rr .e).advance 2)

/-- RR H (R197). -/
def execRrH (s : State) : Host.Outcome State Fault Refusal :=
  .next ((s.rotateSlot .rr .h).advance 2)

/-- RR L (R197). -/
def execRrL (s : State) : Host.Outcome State Fault Refusal :=
  .next ((s.rotateSlot .rr .l).advance 2)

/-- RR (HL) (R197). -/
def execRrIndHl (s : State) : Host.Outcome State Fault Refusal :=
  .next ((s.rotateSlot .rr .indHl).advance 2)

/-- RR A (R197). -/
def execRrA (s : State) : Host.Outcome State Fault Refusal :=
  .next ((s.rotateSlot .rr .a).advance 2)

/-- SLA B (R198). -/
def execSlaB (s : State) : Host.Outcome State Fault Refusal :=
  .next ((s.rotateSlot .sla .b).advance 2)

/-- SLA C (R198). -/
def execSlaC (s : State) : Host.Outcome State Fault Refusal :=
  .next ((s.rotateSlot .sla .c).advance 2)

/-- SLA D (R198). -/
def execSlaD (s : State) : Host.Outcome State Fault Refusal :=
  .next ((s.rotateSlot .sla .d).advance 2)

/-- SLA E (R198). -/
def execSlaE (s : State) : Host.Outcome State Fault Refusal :=
  .next ((s.rotateSlot .sla .e).advance 2)

/-- SLA H (R198). -/
def execSlaH (s : State) : Host.Outcome State Fault Refusal :=
  .next ((s.rotateSlot .sla .h).advance 2)

/-- SLA L (R198). -/
def execSlaL (s : State) : Host.Outcome State Fault Refusal :=
  .next ((s.rotateSlot .sla .l).advance 2)

/-- SLA (HL) (R198). -/
def execSlaIndHl (s : State) : Host.Outcome State Fault Refusal :=
  .next ((s.rotateSlot .sla .indHl).advance 2)

/-- SLA A (R198). -/
def execSlaA (s : State) : Host.Outcome State Fault Refusal :=
  .next ((s.rotateSlot .sla .a).advance 2)

/-- SRA B (R199). -/
def execSraB (s : State) : Host.Outcome State Fault Refusal :=
  .next ((s.rotateSlot .sra .b).advance 2)

/-- SRA C (R199). -/
def execSraC (s : State) : Host.Outcome State Fault Refusal :=
  .next ((s.rotateSlot .sra .c).advance 2)

/-- SRA D (R199). -/
def execSraD (s : State) : Host.Outcome State Fault Refusal :=
  .next ((s.rotateSlot .sra .d).advance 2)

/-- SRA E (R199). -/
def execSraE (s : State) : Host.Outcome State Fault Refusal :=
  .next ((s.rotateSlot .sra .e).advance 2)

/-- SRA H (R199). -/
def execSraH (s : State) : Host.Outcome State Fault Refusal :=
  .next ((s.rotateSlot .sra .h).advance 2)

/-- SRA L (R199). -/
def execSraL (s : State) : Host.Outcome State Fault Refusal :=
  .next ((s.rotateSlot .sra .l).advance 2)

/-- SRA (HL) (R199). -/
def execSraIndHl (s : State) : Host.Outcome State Fault Refusal :=
  .next ((s.rotateSlot .sra .indHl).advance 2)

/-- SRA A (R199). -/
def execSraA (s : State) : Host.Outcome State Fault Refusal :=
  .next ((s.rotateSlot .sra .a).advance 2)

/-- SWAP B (R200). -/
def execSwapB (s : State) : Host.Outcome State Fault Refusal :=
  .next ((s.rotateSlot .swap .b).advance 2)

/-- SWAP C (R200). -/
def execSwapC (s : State) : Host.Outcome State Fault Refusal :=
  .next ((s.rotateSlot .swap .c).advance 2)

/-- SWAP D (R200). -/
def execSwapD (s : State) : Host.Outcome State Fault Refusal :=
  .next ((s.rotateSlot .swap .d).advance 2)

/-- SWAP E (R200). -/
def execSwapE (s : State) : Host.Outcome State Fault Refusal :=
  .next ((s.rotateSlot .swap .e).advance 2)

/-- SWAP H (R200). -/
def execSwapH (s : State) : Host.Outcome State Fault Refusal :=
  .next ((s.rotateSlot .swap .h).advance 2)

/-- SWAP L (R200). -/
def execSwapL (s : State) : Host.Outcome State Fault Refusal :=
  .next ((s.rotateSlot .swap .l).advance 2)

/-- SWAP (HL) (R200). -/
def execSwapIndHl (s : State) : Host.Outcome State Fault Refusal :=
  .next ((s.rotateSlot .swap .indHl).advance 2)

/-- SWAP A (R200). -/
def execSwapA (s : State) : Host.Outcome State Fault Refusal :=
  .next ((s.rotateSlot .swap .a).advance 2)

/-- SRL B (R201). -/
def execSrlB (s : State) : Host.Outcome State Fault Refusal :=
  .next ((s.rotateSlot .srl .b).advance 2)

/-- SRL C (R201). -/
def execSrlC (s : State) : Host.Outcome State Fault Refusal :=
  .next ((s.rotateSlot .srl .c).advance 2)

/-- SRL D (R201). -/
def execSrlD (s : State) : Host.Outcome State Fault Refusal :=
  .next ((s.rotateSlot .srl .d).advance 2)

/-- SRL E (R201). -/
def execSrlE (s : State) : Host.Outcome State Fault Refusal :=
  .next ((s.rotateSlot .srl .e).advance 2)

/-- SRL H (R201). -/
def execSrlH (s : State) : Host.Outcome State Fault Refusal :=
  .next ((s.rotateSlot .srl .h).advance 2)

/-- SRL L (R201). -/
def execSrlL (s : State) : Host.Outcome State Fault Refusal :=
  .next ((s.rotateSlot .srl .l).advance 2)

/-- SRL (HL) (R201). -/
def execSrlIndHl (s : State) : Host.Outcome State Fault Refusal :=
  .next ((s.rotateSlot .srl .indHl).advance 2)

/-- SRL A (R201). -/
def execSrlA (s : State) : Host.Outcome State Fault Refusal :=
  .next ((s.rotateSlot .srl .a).advance 2)

end Sys2Proof.Machine
end

