-- ==== Sys2Proof/Machine/System.lean ====
section
/-! DEFINITION. System instructions, the prefix, unbound opcodes (46_system.md R250 to R256). -/

namespace Sys2Proof.Machine

/-- DI without its PC: the request only; the poll of the same step applies it (R253, 60_exceptions.md R275). -/
def State.requestDisable (s : State) : State := { s with disableRequested := true }

/-- EI without its PC: the request only; the poll of the same step applies it (R254, 60_exceptions.md R275). -/
def State.requestEnable (s : State) : State := { s with enableRequested := true }

/-- The extended operation `xop` without its PC: secondary decode and the operation in one (30_encoding.md R73, 44_rotate_shift_bit.md
R205). -/
def State.extended (s : State) (xop : Byte) : State :=
  let z := slotOfCode (xop.toNat % 8)
  let y := xop.toNat / 8 % 8
  match xop.toNat / 64 with
  | 0 => s.rotateSlot (rotOfCode y) z
  | 1 => s.testBit y z
  | 2 => s.resetBit y z
  | _ => s.setSlotBit y z

/-- NOP (R250). -/
def execNop (s : State) : Host.Outcome State Fault Refusal :=
  .next (s.advance 1)

/-- STOP (R251). -/
def execStop (_s : State) : Host.Outcome State Fault Refusal := .fault (.unsupportedStop 0x10)

/-- HALT (R252). -/
def execHalt (_s : State) : Host.Outcome State Fault Refusal := .fault (.unsupportedStop 0x76)

/-- DI (R253). -/
def execDi (s : State) : Host.Outcome State Fault Refusal :=
  .next ((s.requestDisable).advance 1)

/-- EI (R254). -/
def execEi (s : State) : Host.Outcome State Fault Refusal :=
  .next ((s.requestEnable).advance 1)

/-- PREFIX CB (R255). -/
def execPrefixCb (xop : Byte) (s : State) : Host.Outcome State Fault Refusal :=
  .next ((s.extended xop).advance 2)

/-- The unbound opcode 0xD3 (R256). -/
def execUndefinedD3 (_s : State) : Host.Outcome State Fault Refusal := .fault (.unknownPrimaryOpcode 0xD3)

/-- The unbound opcode 0xDB (R256). -/
def execUndefinedDb (_s : State) : Host.Outcome State Fault Refusal := .fault (.unknownPrimaryOpcode 0xDB)

/-- The unbound opcode 0xDD (R256). -/
def execUndefinedDd (_s : State) : Host.Outcome State Fault Refusal := .fault (.unknownPrimaryOpcode 0xDD)

/-- The unbound opcode 0xE3 (R256). -/
def execUndefinedE3 (_s : State) : Host.Outcome State Fault Refusal := .fault (.unknownPrimaryOpcode 0xE3)

/-- The unbound opcode 0xE4 (R256). -/
def execUndefinedE4 (_s : State) : Host.Outcome State Fault Refusal := .fault (.unknownPrimaryOpcode 0xE4)

/-- The unbound opcode 0xEB (R256). -/
def execUndefinedEb (_s : State) : Host.Outcome State Fault Refusal := .fault (.unknownPrimaryOpcode 0xEB)

/-- The unbound opcode 0xEC (R256). -/
def execUndefinedEc (_s : State) : Host.Outcome State Fault Refusal := .fault (.unknownPrimaryOpcode 0xEC)

/-- The unbound opcode 0xED (R256). -/
def execUndefinedEd (_s : State) : Host.Outcome State Fault Refusal := .fault (.unknownPrimaryOpcode 0xED)

/-- The unbound opcode 0xF4 (R256). -/
def execUndefinedF4 (_s : State) : Host.Outcome State Fault Refusal := .fault (.unknownPrimaryOpcode 0xF4)

/-- The unbound opcode 0xFC (R256). -/
def execUndefinedFc (_s : State) : Host.Outcome State Fault Refusal := .fault (.unknownPrimaryOpcode 0xFC)

/-- The unbound opcode 0xFD (R256). -/
def execUndefinedFd (_s : State) : Host.Outcome State Fault Refusal := .fault (.unknownPrimaryOpcode 0xFD)

end Sys2Proof.Machine
end

