-- ==== Sys2Proof/Machine/Fetch.lean ====
section
/-! DEFINITION. Instruction fetch and its opposite, placing an instruction where the next step fetches (30_encoding.md R70, R77, R78;
20_memory.md R46). -/

namespace Sys2Proof.Machine

/-- The primary opcode: the byte at PC (30_encoding.md R70). -/
def State.fetchOpcode (s : State) : Byte := s.read8 s.pc

/-- The three bytes from PC on, addresses modulo 2^16. A read changes no state, so reading a byte that a shorter instruction does
not have means nothing (20_memory.md R48; log 20). -/
def State.fetchBytes (s : State) : List Byte := [s.read8 s.pc, s.read8 (s.pc + 1), s.read8 (s.pc + 2)]

/-- The instruction at PC (30_encoding.md R70). -/
def State.fetchInstr (s : State) : Instr :=
  decodeBytes (s.read8 s.pc) (s.read8 (s.pc + 1)) (s.read8 (s.pc + 2))

/-- Bytes written one after another from an address on. -/
def State.placeBytes : State → Word → List Byte → State
  | s, _, [] => s
  | s, a, v :: vs => State.placeBytes (s.write8 a v) (a + 1) vs

/-- A word of spec/opcode_table.json stored at PC, zeros above its bits up to the longest instruction (log 22, 23). -/
def State.placeTableWord (s : State) (nbits w : Nat) : State := s.placeBytes s.pc (tableBytes nbits w)

end Sys2Proof.Machine
end

