-- ==== Sys2Proof/Machine/Interrupts.lean ====
section
/-! DEFINITION. The Interrupt Controller's poll, run once after every instruction that did not end in a fatal error
(60_exceptions.md R270 to R278; 00_scope.md R2). -/

namespace Sys2Proof.Machine

/-- Step (a): the joypad request, OR-ed into IF bit 4, whatever IME is (60_exceptions.md R271). -/
def State.pollJoypad (s : State) (joy : Bool) : State :=
  if joy then s.write8 ifAddr (s.read8 ifAddr ||| 0x10) else s

/-- The dispatched class of highest priority in a trigger byte, if any: bits 0, 1, 2, 4 (60_exceptions.md R273). -/
def firstClass (trigger : Byte) : Option IrqClass :=
  if trigger.getLsbD 0 then some .vblank
  else if trigger.getLsbD 1 then some .lcd
  else if trigger.getLsbD 2 then some .timer
  else if trigger.getLsbD 4 then some .joypad
  else none

/-- `trigger = IE & IF` (60_exceptions.md R272). -/
def State.trigger (s : State) : Byte := s.read8 ieAddr &&& s.read8 ifAddr

/-- Step (b) (60_exceptions.md R272): skipped when IME is clear; a class is entered, or, when only bits that are never dispatched
trigger, IME is cleared or kept by IME_CLEAR_ON_UNDISPATCHED (R278; log 18). -/
def State.pollDispatch (s : State) : State :=
  if s.ime && s.trigger != 0 then
    match firstClass s.trigger with
    | some k => s.enterInterrupt k
    | none => if s.params.imeClearOnUndispatched then { s with ime := false } else s
  else s

/-- Step (c) (60_exceptions.md R275): the enable request, then the disable request, each cleared when applied (log 17). -/
def State.pollRequests (s : State) : State :=
  let s1 := if s.enableRequested then { s with ime := true, enableRequested := false } else s
  if s1.disableRequested then { s1 with ime := false, disableRequested := false } else s1

/-- One poll: steps (a), (b), (c) in that order (60_exceptions.md R270). -/
def State.poll (s : State) (joy : Bool) : State := ((s.pollJoypad joy).pollDispatch).pollRequests

end Sys2Proof.Machine
end

