-- ==== Sys2Proof/Machine/Step.lean ====
section
/-! DEFINITION. One step of the core (00_scope.md R2): dispatch, which advances the counters, then one poll of the Interrupt
Controller; a fatal dispatch ends the step before the counters and the poll (60_exceptions.md R265, R266). -/

namespace Sys2Proof.Machine

/-- The spec's own step, `State x Bool -> State + Fatal(kind)`, with JOY_REQ for this step (00_scope.md R3). -/
def stepWith (s : State) (joy : Bool) : Host.Outcome State Fault Refusal :=
  match exec s.fetchInstr s with
  | .next t => .next ((t.count s.fetchOpcode).poll joy)
  | .fault r => .fault r
  | .refused r => .refused r

/-- One step, JOY_REQ taken from the inputs that the state carries, `false` when there is none left (log 1). -/
def step (s : State) : Host.Outcome State Fault Refusal :=
  stepWith { s with joyReq := s.joyReq.tail } (s.joyReq.headD false)

/-- The state with an instruction of spec/opcode_table.json stored where `step` fetches next (log 22, 23). -/
def State.withFetchWord (s : State) (nbits w : Nat) : State := s.placeTableWord nbits w

end Sys2Proof.Machine
end

