-- ==== Sys2Proof/Machine/Reset.lean ====
section
/-! DEFINITION. Reset with every parameter (70_reset_and_hazards.md R290 to R293, 10_state.md R33). `State.reset` is this with the
defaults, an all-zero BOOT and no CART. -/

namespace Sys2Proof.Machine

/-- The cartridge region's bytes after reset: CART from address 0, cut at 32 KiB (R292), and BOOT copied over the first 256
(R291), "overriding the cartridge's own bytes". -/
def resetImage (cart : List Byte) (boot : Vector Byte 256) : List Byte :=
  boot.toList ++ (cart.take 0x8000).drop 256

/-- The canonical memory that holds bytes from a cell on and reads as unlisted everywhere else. -/
def Memory.ofImage : Nat → List Byte → Memory
  | _, [] => []
  | k, v :: vs => if v = Memory.unlisted then Memory.ofImage (k + 1) vs else (k, v) :: Memory.ofImage (k + 1) vs

/-- The state right after reset for RESET_REGS, CART, BOOT, the coming JOY_REQ inputs and the machine's parameters. F's low nibble is
0 whatever RESET_REGS says (10_state.md R13, R33). -/
def State.resetWith (r : ResetRegs) (cart : List Byte) (boot : Vector Byte 256) (joy : List Bool) (p : Params) : State :=
  { a := r.a, f := r.f &&& 0xF0, b := r.b, c := r.c, d := r.d, e := r.e, h := r.h, l := r.l,
    sp := r.sp, pc := 0x0000, ime := false, enableRequested := false, disableRequested := false,
    instrCount := 0, tickCount := 0, mem := Memory.ofImage 0 (resetImage cart boot), joyReq := joy, params := p }

end Sys2Proof.Machine
end

