-- ==== Sys2Proof/Safety.lean ====
section
/-! DEFINITION. What the statements speak of: completing, the invariant that every step keeps, the opcodes that end a run, and the
frame of an instruction, that is, what it leaves as it was. -/

namespace Sys2Proof.Machine

/-! ## Completing and stopping -/

/-- The outcome is a next state, and that state has a property. -/
def Completes (o : Host.Outcome State Fault Refusal) (P : State → Prop) : Prop := ∃ t, o = .next t ∧ P t

/-- The opcodes that raise `UnsupportedStop` (60_exceptions.md R264). -/
def stopOpcodes : List Byte := [0x10, 0x76]

/-- The eleven unbound primary opcodes (30_encoding.md R83). -/
def unboundOpcodes : List Byte := [0xD3, 0xDB, 0xDD, 0xE3, 0xE4, 0xEB, 0xEC, 0xED, 0xF4, 0xFC, 0xFD]

/-! ## The invariant -/

/-- "F & 0x0F == 0 at all times" (10_state.md R13). -/
def FlagsLowZero (s : State) : Prop := s.f &&& 0x0F = 0

/-- Between steps no request is pending: every poll clears both (60_exceptions.md R275, 10_state.md R22, R23). -/
def NoRequest (s : State) : Prop := s.enableRequested = false ∧ s.disableRequested = false

/-- What holds at reset and after every step: F's low nibble is zero, memory is canonical, no request is pending. -/
def Inv (s : State) : Prop := FlagsLowZero s ∧ s.mem.wf ∧ NoRequest s

/-! ## Interrupts -/

/-- What reading an address gives once `v` is stored there: `v`, but at the scanline stub 0x90 (20_memory.md R48, R49). -/
def seen (a : Word) (v : Byte) : Byte := if a = scanlineAddr then scanlineValue else v

/-- `IE & IF` as step (b) of a poll sees it, after step (a) with this joypad request (60_exceptions.md R271, R272; IE at 0xFFFF, IF at
0xFF0F, log 9). -/
def triggerWith (s : State) (joy : Bool) : Byte :=
  s.read8 0xFFFF &&& (if joy then s.read8 0xFF0F ||| 0x10 else s.read8 0xFF0F)

/-- The class is the one of highest priority among those enabled and pending (60_exceptions.md R273). -/
def Due (s : State) (joy : Bool) (k : IrqClass) : Prop :=
  (triggerWith s joy).getLsbD k.bit = true ∧ ∀ j : IrqClass, j.bit < k.bit → (triggerWith s joy).getLsbD j.bit = false

/-- The state is one that has just entered a class's handler from `sp` and `pc` (60_exceptions.md R274; the return address is D12, log 16). -/
def Entered (k : IrqClass) (sp pc : Word) (t : State) : Prop :=
  t.pc = k.vector ∧ t.sp = sp - 2 ∧
  t.read8 (sp - 2) = seen (sp - 2) (loByte pc) ∧ t.read8 (sp - 1) = seen (sp - 1) (hiByte pc)

/-! ## Frames -/

/-- Every 8-bit register but those listed is as it was. -/
def KeepsRegs (except : List Reg) (s t : State) : Prop := ∀ r, r ∉ except → t.getReg r = s.getReg r

/-- The interrupt flip-flops, the counters, the inputs to come and the parameters are as they were. -/
def KeepsControl (s t : State) : Prop :=
  t.ime = s.ime ∧ t.enableRequested = s.enableRequested ∧ t.disableRequested = s.disableRequested ∧
  t.instrCount = s.instrCount ∧ t.tickCount = s.tickCount ∧ t.joyReq = s.joyReq ∧ t.params = s.params

/-- Every byte of memory is as it was, the hidden byte under the scanline stub included. -/
def KeepsMemory (s t : State) : Prop := (∀ a, t.read8 a = s.read8 a) ∧ t.mem = s.mem

/-- Every address that names no cell of the listed addresses reads as before. An echo address and its cartridge address name one
cell (20_memory.md R44). -/
def KeepsMemoryBut (stored : List Word) (s t : State) : Prop :=
  ∀ a, (∀ b ∈ stored, cellOf s.params a ≠ cellOf s.params b) → t.read8 a = s.read8 a

/-- The address a slot stores to when it is written: HL for the memory slot, none for a register (30_encoding.md R75). -/
def slotStores (s : State) : Slot → List Word
  | .indHl => [s.hl]
  | _ => []

/-- The register a slot is (30_encoding.md R75). -/
def slotRegs : Slot → List Reg
  | .b => [.b]
  | .c => [.c]
  | .d => [.d]
  | .e => [.e]
  | .h => [.h]
  | .l => [.l]
  | .indHl => []
  | .a => [.a]

/-- The registers a pair is made of (30_encoding.md R76, 10_state.md R12). -/
def pairRegs : Pair → List Reg
  | .bc => [.b, .c]
  | .de => [.d, .e]
  | .hl => [.h, .l]
  | .sp => []

/-- The 8-bit registers, F apart, that a pushable pair is made of (30_encoding.md R76, 10_state.md R12). -/
def stackPairRegs : StackPair → List Reg
  | .bc => [.b, .c]
  | .de => [.d, .e]
  | .hl => [.h, .l]
  | .af => [.a]

end Sys2Proof.Machine
end

