-- ==== Sys2Proof/Certificates/Slice0/Obligations.lean ====
section
/-! DEFINITION. The statements for the provers. Each docstring names the rules of spec/ it formalises. A statement that gives a
family of instructions by pattern (`ldOf`, `aluOf`, `rotOf` and so on, Sys2Proof/Decode.lean) speaks of every constructor the
family names. "(spec's choice Dn)" marks a clause whose rule the spec itself took from outside its document; the log entry is in
NOTES.md. -/

open Sys2Proof Sys2Proof.Machine

/-! ## Encoding -/

/-- 30_encoding.md R70, R71, R73, R81, R82: the bytes of an instruction, whatever bytes follow, decode to that instruction and leave the
rest. Every constructor but `prefixCb`, which is no instruction of its own (46_system.md R255). The opcode values are the spec's
choice D1 to D5 (log 8). -/
def Obligations.DecodeOfEncodeGivesTheInstruction : Prop :=
  ∀ (i : Instr) (rest : List Byte), WellFormed i = true → decode (encode i ++ rest) = .ok (i, rest)

/-- 30_encoding.md R71, R81 to R83, R85: any three bytes begin with one instruction; it is well formed, and its encoding is the first of
those bytes, as many as the first byte calls for. So no two instructions share bytes and no bit is dropped. -/
def Obligations.EncodeOfDecodedBytesGivesTheBytes : Prop :=
  ∀ b0 b1 b2 : Byte, WellFormed (decodeBytes b0 b1 b2) = true ∧
    encode (decodeBytes b0 b1 b2) = [b0, b1, b2].take (instrLength b0)

/-- The document's own word 0x3E 0x42 (95_test_vectors.md S7), and words of the other families, whose opcodes and operand codes the spec
PRESUMES from general knowledge (D1 to D5, log 8), written out from the `Encoding:` lines of files 40 to 46. The last clause, a list
cut short, is the model's own `DecodeError` and no rule's. -/
def Obligations.SampleWordsDecodeAsTheSpecWritesThem : Prop :=
  decode [0x3E, 0x42] = .ok (.ldAD8 0x42, []) ∧
  decode [0x41] = .ok (.ldBC, []) ∧
  decode [0xEA, 0x10, 0xC0] = .ok (.ldIndA16A 0xC010, []) ∧
  decode [0x31, 0xFE, 0xFF] = .ok (.ldSpD16 0xFFFE, []) ∧
  decode [0x8B] = .ok (.adcAE, []) ∧
  decode [0xFE, 0x40] = .ok (.cpD8 0x40, []) ∧
  decode [0x09] = .ok (.addHlBc, []) ∧
  decode [0xCB, 0x7C] = .ok (.bit7H, []) ∧
  decode [0xCB, 0x37] = .ok (.swapA, []) ∧
  decode [0xCB, 0xCB] = .ok (.set1E, []) ∧
  decode [0xDC, 0x00, 0x40] = .ok (.callCA16 0x4000, []) ∧
  decode [0xEF] = .ok (.rst28h, []) ∧
  decode [0xD3] = .ok (.undefinedD3, []) ∧
  decode [0xC3, 0x50] = .error (.truncated 0xC3)

/-- 30_encoding.md R72 to R76, R80, R81: the grid of opcodes and the patterns of fields say the same, for every register, operation, pair,
condition, vector and bit number of every regular family (the field codes are the spec's choice D3, D4). -/
def Obligations.OpcodeGridAgreesWithTheFieldPatterns : Prop :=
  (∀ (y z : Slot) (b : Byte) (w : Word), decodePrimary (BitVec.ofNat 8 (0x40 + 8 * y.code + z.code)) b w = ldOf y z) ∧
  (∀ (y : AluOp) (z : Slot) (b : Byte) (w : Word), decodePrimary (BitVec.ofNat 8 (0x80 + 8 * y.code + z.code)) b w = aluOf y z) ∧
  (∀ (y : AluOp) (b : Byte) (w : Word), decodePrimary (BitVec.ofNat 8 (0xC6 + 8 * y.code)) b w = aluImmOf y b) ∧
  (∀ (y : Slot) (b : Byte) (w : Word), decodePrimary (BitVec.ofNat 8 (0x04 + 8 * y.code)) b w = incOf y ∧
    decodePrimary (BitVec.ofNat 8 (0x05 + 8 * y.code)) b w = decOf y ∧
    decodePrimary (BitVec.ofNat 8 (0x06 + 8 * y.code)) b w = ldImmOf y b) ∧
  (∀ (p : Pair) (b : Byte) (w : Word), decodePrimary (BitVec.ofNat 8 (0x01 + 16 * p.code)) b w = ldPairOf p w ∧
    decodePrimary (BitVec.ofNat 8 (0x09 + 16 * p.code)) b w = addHlOf p ∧
    decodePrimary (BitVec.ofNat 8 (0x03 + 16 * p.code)) b w = incPairOf p ∧
    decodePrimary (BitVec.ofNat 8 (0x0B + 16 * p.code)) b w = decPairOf p) ∧
  (∀ (p : StackPair) (b : Byte) (w : Word), decodePrimary (BitVec.ofNat 8 (0xC5 + 16 * p.code)) b w = pushOf p ∧
    decodePrimary (BitVec.ofNat 8 (0xC1 + 16 * p.code)) b w = popOf p) ∧
  (∀ (cc : Cond) (b : Byte) (w : Word), decodePrimary (BitVec.ofNat 8 (0x20 + 8 * cc.code)) b w = jrCcOf cc b ∧
    decodePrimary (BitVec.ofNat 8 (0xC2 + 8 * cc.code)) b w = jpCcOf cc w ∧
    decodePrimary (BitVec.ofNat 8 (0xC4 + 8 * cc.code)) b w = callCcOf cc w ∧
    decodePrimary (BitVec.ofNat 8 (0xC0 + 8 * cc.code)) b w = retCcOf cc) ∧
  (∀ (t : Fin 8) (b : Byte) (w : Word), decodePrimary (BitVec.ofNat 8 (0xC7 + 8 * t.val)) b w = rstOf t) ∧
  (∀ (op : RotOp) (z : Slot), decodeExtended (BitVec.ofNat 8 (8 * op.code + z.code)) = rotOf op z) ∧
  (∀ (k : Fin 8) (z : Slot), decodeExtended (BitVec.ofNat 8 (0x40 + 8 * k.val + z.code)) = bitOf k z ∧
    decodeExtended (BitVec.ofNat 8 (0x80 + 8 * k.val + z.code)) = resOf k z ∧
    decodeExtended (BitVec.ofNat 8 (0xC0 + 8 * k.val + z.code)) = setOf k z)

/-! ## The step, the invariant, the stops -/

/-- 00_scope.md section 5, 30_encoding.md section 1: the bytes at PC always begin with a well-formed instruction; a step is that
instruction's `exec`, then the counters, then the poll, and a fatal instruction ends the step before both. Two parts are the model's
own: that the fetch takes three bytes whatever the length (log 20, DESIGN CHOICE), and the third clause, that `step` is `stepWith` on
the head of State's list of inputs, `false` when it is empty, with the tail kept (log 1, DESIGN CHOICE). -/
def Obligations.StepRunsTheDecodedInstruction : Prop :=
  (∀ s : State, ∃ i rest, WellFormed i = true ∧ decode s.fetchBytes = .ok (i, rest)) ∧
  (∀ (s : State) (joy : Bool) (i : Instr) (rest : List Byte), decode s.fetchBytes = .ok (i, rest) →
    stepWith s joy =
      match exec i s with
      | .next t => .next ((t.count (s.read8 s.pc)).poll joy)
      | .fault r => .fault r
      | .refused r => .refused r) ∧
  (∀ s : State, step s = stepWith { s with joyReq := s.joyReq.tail } (s.joyReq.headD false))

/-- Every step keeps the invariant: F's low nibble zero (10_state.md section 3; that POP AF masks it is log 11, DEDUCED, D22), memory
canonical (no cell in the echo window, none twice, none that reads as unlisted: the model's form, logs 7 and 19, DESIGN CHOICE), no
request left pending (60_exceptions.md section 2 in the spec's single-stage reading, D14, log 17, DESIGN CHOICE). -/
def Obligations.EveryStepKeepsTheInvariant : Prop :=
  ∀ s t : State, Inv s → step s = .next t → Inv t

/-- The invariant holds at reset, for the defaults and for every RESET_REGS, CART, BOOT, input and parameter (10_state.md sections 3 and 7).
That no request is pending at reset is the spec's choice D10 (log 6, DESIGN CHOICE); the canonical list is the model's form (logs 7
and 19, DESIGN CHOICE). -/
def Obligations.ResetMeetsTheInvariant : Prop :=
  Inv State.reset ∧
  ∀ (r : ResetRegs) (cart : List Byte) (boot : Vector Byte 256) (joy : List Bool) (p : Params),
    Inv (State.resetWith r cart boot joy p)

/-- 70_reset_and_hazards.md R301, 60_exceptions.md R261 to R264: what a step answers is decided by the opcode at PC alone. The two stop
opcodes and the eleven unbound ones raise their fatal error with the opcode as payload; every other opcode gives a next state, so
no step refuses and no step raises UnmappedAddress or UnknownExtendedOpcode. (STOP fatal is the spec's choice D6, log 12; the six
unnamed unbound opcodes D5, log 8; the payload D31, log 13.) -/
def Obligations.OnlyThirteenOpcodesEndARun : Prop :=
  ∀ s : State,
    (s.read8 s.pc ∈ stopOpcodes → step s = .fault (.unsupportedStop (s.read8 s.pc))) ∧
    (s.read8 s.pc ∈ unboundOpcodes → step s = .fault (.unknownPrimaryOpcode (s.read8 s.pc))) ∧
    (s.read8 s.pc ∉ stopOpcodes → s.read8 s.pc ∉ unboundOpcodes → ∃ t, step s = .next t)

/-- 10_state.md R30, R31: a step that completes adds one to the instruction counter and CYCLES of the primary opcode to the tick counter,
whether or not its poll takes an interrupt, and for a prefixed instruction with the opcode 0xCB. CYCLES is uninterpreted (log 3). -/
def Obligations.EveryStepCountsOneInstruction : Prop :=
  ∀ s t : State, step s = .next t →
    t.instrCount = s.instrCount + 1 ∧ t.tickCount = s.tickCount + Config.cycles (s.read8 s.pc)

/-- 10_state.md R30 ("used for diagnostics, not control flow"): the counters influence nothing but themselves: from two states that differ
in the counters only, a step gives the same stop or two states that differ in the counters only. -/
def Obligations.CountersInfluenceNothing : Prop :=
  ∀ (s : State) (m n : Nat),
    step { s with instrCount := m, tickCount := n } =
      match step s with
      | .next t => .next { t with instrCount := m + 1, tickCount := n + Config.cycles (s.read8 s.pc) }
      | .fault r => .fault r
      | .refused r => .refused r

/-- 00_scope.md section 4, R3: no step changes the machine's parameters, and each consumes exactly one JOY_REQ input (log 1, 2). -/
def Obligations.StepsKeepParametersAndConsumeOneInput : Prop :=
  ∀ s t : State, step s = .next t → t.params = s.params ∧ t.joyReq = s.joyReq.tail

/-! ## Reset -/

/-- 10_state.md R33, 70_reset_and_hazards.md R290, R293: the registers and interrupt state after reset, for every RESET_REGS; F's low nibble is
0 whatever RESET_REGS says. PC and the zeros are the spec's choice D10 (log 4, 5, 6). -/
def Obligations.ResetLeavesTheseRegisters : Prop :=
  (∀ (r : ResetRegs) (cart : List Byte) (boot : Vector Byte 256) (joy : List Bool) (p : Params),
    let s := State.resetWith r cart boot joy p
    s.pc = 0x0000 ∧ s.a = r.a ∧ s.b = r.b ∧ s.c = r.c ∧ s.d = r.d ∧ s.e = r.e ∧ s.h = r.h ∧ s.l = r.l ∧ s.sp = r.sp ∧
    s.f &&& 0x0F = 0 ∧ s.f &&& 0xF0 = r.f &&& 0xF0 ∧ s.ime = false ∧ s.enableRequested = false ∧
    s.disableRequested = false ∧ s.instrCount = 0 ∧ s.tickCount = 0) ∧
  State.reset = State.resetWith ResetRegs.default [] (Vector.replicate 256 0) [] Params.default

/-- 70_reset_and_hazards.md section 1, 10_state.md section 7: memory after reset: BOOT at 0x0000 to 0x00FF, then CART cut at 32 KiB and
padded with 0x00; the echo window reads the byte of those at (ECHO_BASE + offset) mod 0x8000, for every ECHO_BASE (log 2); 0x00 in
every other region but the scanline stub, which reads 0x90. Padding and fill are the spec's choice D11 (log 7). -/
def Obligations.ResetMemoryHoldsBootOverCart : Prop :=
  ∀ (r : ResetRegs) (cart : List Byte) (boot : Vector Byte 256) (joy : List Bool) (p : Params) (a : Word),
    let s := State.resetWith r cart boot joy p
    (a.toNat < 0x0100 → s.read8 a = boot.toList.getD a.toNat 0) ∧
    (0x0100 ≤ a.toNat → a.toNat < 0x8000 → s.read8 a = cart.getD a.toNat 0) ∧
    (0xE000 ≤ a.toNat → a.toNat < 0xF000 →
      let c := (p.echoBase.toNat + (a.toNat - 0xE000)) % 0x8000
      s.read8 a = if c < 0x0100 then boot.toList.getD c 0 else cart.getD c 0) ∧
    (0x8000 ≤ a.toNat → a.toNat < 0xE000 ∨ 0xF000 ≤ a.toNat → a ≠ 0xFF44 → s.read8 a = 0) ∧
    (a = 0xFF44 → s.read8 a = 0x90)

/-! ## Memory -/

/-- 20_memory.md R41, R47: every 16-bit address resolves to exactly one region, the one whose inclusive bounds hold it. -/
def Obligations.EveryAddressIsInExactlyOneRegion : Prop :=
  ∀ (a : Word) (r : Region), regionOf a = r ↔ r.first ≤ a.toNat ∧ a.toNat ≤ r.last

/-- 20_memory.md R42, R43, R45, R48, R49, R55: what a read gives after a write: 0x90 at 0xFF44; the byte written, at every address outside the
echo window that is the address written; the byte from before at every other address outside the window, if the address written is
outside it too. A write changes nothing but memory. -/
def Obligations.ReadAfterWriteOutsideTheEchoWindow : Prop :=
  ∀ (s : State) (a b : Word) (v : Byte),
    (a.toNat < 0xE000 ∨ 0xF000 ≤ a.toNat) → (b.toNat < 0xE000 ∨ 0xF000 ≤ b.toNat) →
    (s.write8 a v).read8 b = (if b = 0xFF44 then 0x90 else if b = a then v else s.read8 b) ∧
    s.write8 a v = { s with mem := (s.write8 a v).mem }

/-- 20_memory.md R44: reading or writing 0xE000 + k is reading or writing the cartridge byte (ECHO_BASE + k) mod 0x8000, for every
ECHO_BASE; what is written reads back, and work RAM at 0xC000 + k is unaffected (the document's example). ECHO_BASE stays open (log 2). -/
def Obligations.EchoWindowIsTheCartridgeRegion : Prop :=
  ∀ (s : State) (k : Nat) (v : Byte), k < 0x1000 →
    let e : Word := BitVec.ofNat 16 (0xE000 + k)
    let c : Word := BitVec.ofNat 16 ((s.params.echoBase.toNat + k) % 0x8000)
    let w : Word := BitVec.ofNat 16 (0xC000 + k)
    s.read8 e = s.read8 c ∧ s.write8 e v = s.write8 c v ∧ (s.write8 e v).read8 e = v ∧ (s.write8 e v).read8 w = s.read8 w

/-- 20_memory.md R50 to R53: 16-bit accesses are little-endian, byte by byte, the second address modulo 2^16 (spec's choice D9), at any
alignment: what is read is the two bytes, and after a write each byte reads as written but at the scanline stub. -/
def Obligations.SixteenBitAccessesAreLittleEndianBytes : Prop :=
  ∀ (s : State) (a v : Word),
    (s.read16 a).toNat = (s.read8 (a + 1)).toNat * 256 + (s.read8 a).toNat ∧
    (s.write16 a v).read8 a = seen a (BitVec.ofNat 8 v.toNat) ∧
    (s.write16 a v).read8 (a + 1) = seen (a + 1) (BitVec.ofNat 8 (v.toNat / 256)) ∧
    KeepsMemoryBut [a, a + 1] s (s.write16 a v) ∧
    s.write16 a v = { s with mem := (s.write16 a v).mem }

/-- 45_control_flow_stack.md R220, R221, 10_state.md R19: pop after push gives the value back and leaves SP as it was, for every value and every
SP, unless a pushed byte lands on the scanline stub, where it reads as 0x90 (SP modulo 2^16 is the spec's choice D9). -/
def Obligations.PopAfterPushGivesTheValueBack : Prop :=
  ∀ (s : State) (v : Word), s.sp - 2 ≠ 0xFF44 → s.sp - 1 ≠ 0xFF44 →
    (s.push16 v).top16 = v ∧ (s.push16 v).drop16.sp = s.sp ∧ (s.push16 v).sp = s.sp - 2

/-! ## Registers and flags -/

/-- 10_state.md R12: a pair is `(high << 8) | low`; writing a pair writes its two registers and no other, writing one register shows in the pair;
through AF the low byte is masked. -/
def Obligations.PairViewsShareStorageWithTheirHalves : Prop :=
  (∀ s : State, s.bc.toNat = s.b.toNat * 256 + s.c.toNat ∧ s.de.toNat = s.d.toNat * 256 + s.e.toNat ∧
    s.hl.toNat = s.h.toNat * 256 + s.l.toNat ∧ s.af.toNat = s.a.toNat * 256 + s.f.toNat) ∧
  (∀ (s : State) (p : StackPair) (v : Word),
    (s.setStackPair p v).getStackPair p = (if p = .af then v &&& 0xFFF0 else v) ∧
    (∀ q : StackPair, q ≠ p → (s.setStackPair p v).getStackPair q = s.getStackPair q)) ∧
  (∀ (s : State) (v : Byte),
    (s.setReg .b v).bc.toNat = v.toNat * 256 + s.c.toNat ∧ (s.setReg .c v).bc.toNat = s.b.toNat * 256 + v.toNat ∧
    (s.setReg .d v).de.toNat = v.toNat * 256 + s.e.toNat ∧ (s.setReg .e v).de.toNat = s.d.toNat * 256 + v.toNat ∧
    (s.setReg .h v).hl.toNat = v.toNat * 256 + s.l.toNat ∧ (s.setReg .l v).hl.toNat = s.h.toNat * 256 + v.toNat ∧
    (s.setReg .a v).af.toNat = v.toNat * 256 + s.f.toNat)

/-- 10_state.md R14: Z, N, H, C are bits 7, 6, 5, 4 of F; setting one writes that bit and leaves the other three flags, and F's low nibble is 0
after it (R13). -/
def Obligations.FlagsAreTheTopBitsOfF : Prop :=
  (∀ s : State, s.flag .z = s.f.getLsbD 7 ∧ s.flag .n = s.f.getLsbD 6 ∧ s.flag .h = s.f.getLsbD 5 ∧ s.flag .c = s.f.getLsbD 4) ∧
  (∀ (s : State) (k j : Flag) (v : Bool),
    (s.setFlag k v).flag j = (if j = k then v else s.flag j) ∧ FlagsLowZero (s.setFlag k v) ∧
    s.setFlag k v = { s with f := (s.setFlag k v).f })

/-! ## The arithmetic primitives -/

/-- 42_alu_8bit.md R140: add8, result and four flags, for all operands and both carries. -/
def Obligations.Add8MeetsTheDocumentsFormulas : Prop :=
  ∀ (a b : Byte) (cin : Bool),
    let o := add8 a b cin
    o.r.toNat = (a.toNat + b.toNat + cin.toNat) % 256 ∧
    (o.z = true ↔ o.r = 0) ∧ o.n = false ∧
    (o.h = true ↔ (a &&& 0xF).toNat + (b &&& 0xF).toNat + cin.toNat > 0xF) ∧
    (o.c = true ↔ a.toNat + b.toNat + cin.toNat > 0xFF)

/-- 42_alu_8bit.md R141: sub8, result (the non-negative remainder) and four flags; C is set exactly when the true difference is negative. -/
def Obligations.Sub8MeetsTheDocumentsFormulas : Prop :=
  ∀ (a b : Byte) (cin : Bool),
    let o := sub8 a b cin
    (o.r.toNat : Int) = ((a.toNat : Int) - (b.toNat : Int) - (cin.toNat : Int)) % 256 ∧
    (o.z = true ↔ o.r = 0) ∧ o.n = true ∧
    (o.h = true ↔ (a &&& 0xF).toNat < (b &&& 0xF).toNat + cin.toNat) ∧
    (o.c = true ↔ a.toNat < b.toNat + cin.toNat) ∧
    (o.c = true ↔ (a.toNat : Int) - (b.toNat : Int) - (cin.toNat : Int) < 0)

/-- 42_alu_8bit.md R142, R143, R144: and8, or8, xor8: each result bit, and the four flags. -/
def Obligations.LogicPrimitivesMeetTheDocumentsFormulas : Prop :=
  ∀ (a b : Byte),
    (∀ j, (and8 a b).r.getLsbD j = (a.getLsbD j && b.getLsbD j)) ∧
    ((and8 a b).z = true ↔ (and8 a b).r = 0) ∧ (and8 a b).n = false ∧ (and8 a b).h = true ∧ (and8 a b).c = false ∧
    (∀ j, (or8 a b).r.getLsbD j = (a.getLsbD j || b.getLsbD j)) ∧
    ((or8 a b).z = true ↔ (or8 a b).r = 0) ∧ (or8 a b).n = false ∧ (or8 a b).h = false ∧ (or8 a b).c = false ∧
    (∀ j, (xor8 a b).r.getLsbD j = (a.getLsbD j ^^ b.getLsbD j)) ∧
    ((xor8 a b).z = true ↔ (xor8 a b).r = 0) ∧ (xor8 a b).n = false ∧ (xor8 a b).h = false ∧ (xor8 a b).c = false

/-- 43_alu_16bit.md R180, R181: add16 (C is the carry out of bit 15, H out of bit 11) and addsp (the displacement signed in the sum; H and
C those of add8 on SP's low byte and the raw byte, the spec's choice D32, log 24). -/
def Obligations.SixteenBitAddersMeetTheFormulas : Prop :=
  (∀ a b : Word, (add16 a b).r.toNat = (a.toNat + b.toNat) % 0x10000 ∧
    ((add16 a b).h = true ↔ (a &&& 0x0FFF).toNat + (b &&& 0x0FFF).toNat > 0x0FFF) ∧
    ((add16 a b).c = true ↔ a.toNat + b.toNat > 0xFFFF)) ∧
  (∀ (sp : Word) (e : Byte), ((addsp sp e).r.toNat : Int) = ((sp.toNat : Int) + e.toInt) % 0x10000 ∧
    (addsp sp e).h = (add8 (BitVec.ofNat 8 sp.toNat) e false).h ∧ (addsp sp e).c = (add8 (BitVec.ofNat 8 sp.toNat) e false).c)

/-- 44_rotate_shift_bit.md R190 to R201: every result bit of the eight rotates and shifts, and the bit that C takes: the one shifted out,
and 0 for SWAP. -/
def Obligations.RotatesAndShiftsBitByBit : Prop :=
  ∀ (op : RotOp) (v : Byte) (cf : Bool) (j : Nat), j < 8 →
    (rotResult op v cf).getLsbD j =
      (match op with
       | .rlc => v.getLsbD ((j + 7) % 8)
       | .rrc => v.getLsbD ((j + 1) % 8)
       | .rl => if j = 0 then cf else v.getLsbD (j - 1)
       | .rr => if j = 7 then cf else v.getLsbD (j + 1)
       | .sla => if j = 0 then false else v.getLsbD (j - 1)
       | .sra => if j = 7 then v.getLsbD 7 else v.getLsbD (j + 1)
       | .swap => v.getLsbD ((j + 4) % 8)
       | .srl => if j = 7 then false else v.getLsbD (j + 1)) ∧
    rotCarry op v =
      (match op with
       | .rlc => v.getLsbD 7
       | .rl => v.getLsbD 7
       | .sla => v.getLsbD 7
       | .rrc => v.getLsbD 0
       | .rr => v.getLsbD 0
       | .sra => v.getLsbD 0
       | .srl => v.getLsbD 0
       | .swap => false)

/-! ## Loads -/

/-- 40_loads_8bit.md R100: LD r,r' for all 49 pairs of registers (ldBB, ldBC, …, ldAA): completes, with the source's old value in the
destination, and nothing else changed but PC. -/
def Obligations.LoadRegisterFromRegister : Prop :=
  ∀ (dst src : Reg) (s : State), Completes (exec (ldOf dst.slot src.slot) s) fun t =>
    t.getReg dst = s.getReg src ∧ t.pc = s.pc + 1 ∧
    KeepsRegs [dst] s t ∧ t.f = s.f ∧ t.sp = s.sp ∧ KeepsControl s t ∧ KeepsMemory s t

/-- 40_loads_8bit.md R101, R103: LD r,(HL) and LD r,d8 for the seven registers: complete, with the byte at the OLD HL or the immediate in the
destination. -/
def Obligations.LoadRegisterFromMemoryOrImmediate : Prop :=
  ∀ (dst : Reg) (d8 : Byte) (s : State),
    (Completes (exec (ldOf dst.slot .indHl) s) fun t =>
      t.getReg dst = s.read8 s.hl ∧ t.pc = s.pc + 1 ∧
      KeepsRegs [dst] s t ∧ t.f = s.f ∧ t.sp = s.sp ∧ KeepsControl s t ∧ KeepsMemory s t) ∧
    (Completes (exec (ldImmOf dst.slot d8) s) fun t =>
      t.getReg dst = d8 ∧ t.pc = s.pc + 2 ∧
      KeepsRegs [dst] s t ∧ t.f = s.f ∧ t.sp = s.sp ∧ KeepsControl s t ∧ KeepsMemory s t)

/-- 40_loads_8bit.md R102, R104: LD (HL),r for the seven registers and LD (HL),d8: complete, the byte stored at HL and no other byte changed. -/
def Obligations.StoreRegisterOrImmediateAtHl : Prop :=
  ∀ (src : Reg) (d8 : Byte) (s : State),
    (Completes (exec (ldOf .indHl src.slot) s) fun t =>
      t.read8 s.hl = seen s.hl (s.getReg src) ∧ KeepsMemoryBut [s.hl] s t ∧ t.pc = s.pc + 1 ∧
      KeepsRegs [] s t ∧ t.f = s.f ∧ t.sp = s.sp ∧ KeepsControl s t) ∧
    (Completes (exec (ldImmOf .indHl d8) s) fun t =>
      t.read8 s.hl = seen s.hl d8 ∧ KeepsMemoryBut [s.hl] s t ∧ t.pc = s.pc + 2 ∧
      KeepsRegs [] s t ∧ t.f = s.f ∧ t.sp = s.sp ∧ KeepsControl s t)

/-- 40_loads_8bit.md R105, R106, R109, R111, R113: LD A,(BC); LD A,(DE); LD A,(a16); LDH A,(a8); LD A,(C): complete, A the byte read. The
high-page address is 0xFF00 + the byte (30_encoding.md R87; the spec's choice D29, log 15). -/
def Obligations.LoadAccumulatorFromMemory : Prop :=
  ∀ (a16 : Word) (a8 : Byte) (s : State),
    ∀ x ∈ [(Instr.ldAIndBc, s.bc, 1#16), (.ldAIndDe, s.de, 1), (.ldAIndA16 a16, a16, 3),
        (.ldhAIndA8 a8, BitVec.ofNat 16 (0xFF00 + a8.toNat), 2), (.ldAIndC, BitVec.ofNat 16 (0xFF00 + s.c.toNat), 1)],
      Completes (exec x.1 s) fun t =>
        t.a = s.read8 x.2.1 ∧ t.pc = s.pc + x.2.2 ∧
        KeepsRegs [.a] s t ∧ t.f = s.f ∧ t.sp = s.sp ∧ KeepsControl s t ∧ KeepsMemory s t

/-- 40_loads_8bit.md R107, R108, R110, R112, R114: LD (BC),A; LD (DE),A; LD (a16),A; LDH (a8),A; LD (C),A: complete, A stored at the
address and no other byte changed. The high page starts at 0xFF00 (30_encoding.md R87). -/
def Obligations.StoreAccumulatorToMemory : Prop :=
  (∀ a8 : Byte, highPage a8 = BitVec.ofNat 16 (0xFF00 + a8.toNat)) ∧
  ∀ (a16 : Word) (a8 : Byte) (s : State),
    ∀ x ∈ [(Instr.ldIndBcA, s.bc, 1#16), (.ldIndDeA, s.de, 1), (.ldIndA16A a16, a16, 3),
        (.ldhIndA8A a8, highPage a8, 2), (.ldIndCA, highPage s.c, 1)],
      Completes (exec x.1 s) fun t =>
        t.read8 x.2.1 = seen x.2.1 s.a ∧ KeepsMemoryBut [x.2.1] s t ∧ t.pc = s.pc + x.2.2 ∧
        KeepsRegs [] s t ∧ t.f = s.f ∧ t.sp = s.sp ∧ KeepsControl s t

/-- 40_loads_8bit.md section 5: the four forms that step HL: the access is at the old HL, HL then moves by one, no flag changes. The document
does not describe them: their semantics are PRESUMED by the spec (D29, log 15), and HL modulo 2^16 is its choice D9 (log 10). -/
def Obligations.LoadsAndStoresThatStepHl : Prop :=
  ∀ s : State,
    (∀ x ∈ [(Instr.ldIndHlIncA, s.hl + 1), (.ldIndHlDecA, s.hl - 1)],
      Completes (exec x.1 s) fun t =>
        t.read8 s.hl = seen s.hl s.a ∧ KeepsMemoryBut [s.hl] s t ∧ t.hl = x.2 ∧ t.pc = s.pc + 1 ∧
        KeepsRegs [.h, .l] s t ∧ t.f = s.f ∧ t.sp = s.sp ∧ KeepsControl s t) ∧
    (∀ x ∈ [(Instr.ldAIndHlInc, s.hl + 1), (.ldAIndHlDec, s.hl - 1)],
      Completes (exec x.1 s) fun t =>
        t.a = s.read8 s.hl ∧ t.hl = x.2 ∧ t.pc = s.pc + 1 ∧
        KeepsRegs [.a, .h, .l] s t ∧ t.f = s.f ∧ t.sp = s.sp ∧ KeepsControl s t ∧ KeepsMemory s t)

/-- 41_loads_16bit.md: LD rr,d16 for BC DE HL SP; LD (a16),SP; LD SP,HL: complete; no flag changes; the store writes SP low byte first at
a16 and a16 + 1. The last two the document does not describe: PRESUMED by the spec (D29, log 15); a16 + 1 modulo 2^16 is its choice
D9 (log 10). -/
def Obligations.SixteenBitLoads : Prop :=
  (∀ (p : Pair) (d16 : Word) (s : State), Completes (exec (ldPairOf p d16) s) fun t =>
    t.getPair p = d16 ∧ t.pc = s.pc + 3 ∧ (p ≠ .sp → t.sp = s.sp) ∧
    KeepsRegs (pairRegs p) s t ∧ t.f = s.f ∧ KeepsControl s t ∧ KeepsMemory s t) ∧
  (∀ (a16 : Word) (s : State), Completes (exec (.ldIndA16Sp a16) s) fun t =>
    t.read8 a16 = seen a16 (loByte s.sp) ∧ t.read8 (a16 + 1) = seen (a16 + 1) (hiByte s.sp) ∧
    KeepsMemoryBut [a16, a16 + 1] s t ∧ t.pc = s.pc + 3 ∧
    KeepsRegs [] s t ∧ t.f = s.f ∧ t.sp = s.sp ∧ KeepsControl s t) ∧
  (∀ s : State, Completes (exec .ldSpHl s) fun t =>
    t.sp = s.hl ∧ t.pc = s.pc + 1 ∧ KeepsRegs [] s t ∧ t.f = s.f ∧ KeepsControl s t ∧ KeepsMemory s t)

/-- 41_loads_16bit.md R133, 43_alu_16bit.md R185: LD HL,SP+e8 and ADD SP,e8 complete; the sum is SP plus the signed displacement, Z and N are 0
whatever it is, H and C come from the low byte's unsigned sum. LD HL,SP+e8 leaves SP. -/
def Obligations.StackPointerRelativeSums : Prop :=
  ∀ (e8 : Byte) (s : State),
    (Completes (exec (.ldHlSpE8 e8) s) fun t =>
      (t.hl.toNat : Int) = ((s.sp.toNat : Int) + e8.toInt) % 0x10000 ∧ t.sp = s.sp ∧
      t.flag .z = false ∧ t.flag .n = false ∧
      (t.flag .h = true ↔ s.sp.toNat % 16 + e8.toNat % 16 > 0xF) ∧ (t.flag .c = true ↔ s.sp.toNat % 256 + e8.toNat > 0xFF) ∧
      t.pc = s.pc + 2 ∧ KeepsRegs [.h, .l] s t ∧ KeepsControl s t ∧ KeepsMemory s t) ∧
    (Completes (exec (.addSpE8 e8) s) fun t =>
      (t.sp.toNat : Int) = ((s.sp.toNat : Int) + e8.toInt) % 0x10000 ∧
      t.flag .z = false ∧ t.flag .n = false ∧
      (t.flag .h = true ↔ s.sp.toNat % 16 + e8.toNat % 16 > 0xF) ∧ (t.flag .c = true ↔ s.sp.toNat % 256 + e8.toNat > 0xFF) ∧
      t.pc = s.pc + 2 ∧ KeepsRegs [] s t ∧ KeepsControl s t ∧ KeepsMemory s t)

/-! ## Arithmetic and logic -/

/-- 42_alu_8bit.md R145 to R160: the eight operations on A, with each of the eight slots and with an immediate (72 constructors),
complete: A is the primitive's result (CP leaves A), the four flags are the primitive's, nothing else changes but PC. Which primitive, and
that ADC and SBC alone take the C flag as carry-in (spec's choice D29), is said too. -/
def Obligations.OperationsOnTheAccumulator : Prop :=
  (∀ (a v : Byte) (cf : Bool),
    alu .add a v cf = add8 a v false ∧ alu .adc a v cf = add8 a v cf ∧ alu .sub a v cf = sub8 a v false ∧
    alu .sbc a v cf = sub8 a v cf ∧ alu .and a v cf = and8 a v ∧ alu .xor a v cf = xor8 a v ∧ alu .or a v cf = or8 a v ∧
    alu .cp a v cf = sub8 a v false) ∧
  ∀ (op : AluOp) (z : Slot) (d8 : Byte) (s : State),
    ∀ x ∈ [(aluOf op z, s.getSlot z, 1#16), (aluImmOf op d8, d8, 2)],
      Completes (exec x.1 s) fun t =>
        let o := alu op s.a x.2.1 (s.flag .c)
        t.a = (if op = .cp then s.a else o.r) ∧
        t.flag .z = o.z ∧ t.flag .n = o.n ∧ t.flag .h = o.h ∧ t.flag .c = o.c ∧ t.pc = s.pc + x.2.2 ∧
        KeepsRegs [.a] s t ∧ t.sp = s.sp ∧ KeepsControl s t ∧ KeepsMemory s t

/-- 42_alu_8bit.md R161 to R164: INC and DEC of the seven registers and of (HL) complete: the slot's byte plus or minus one modulo 256, Z
from it, H the nibble carry or borrow, N 0 or 1, the C flag NOT touched. -/
def Obligations.IncrementAndDecrementOfASlot : Prop :=
  ∀ (z : Slot) (s : State),
    (Completes (exec (incOf z) s) fun t =>
      let r : Byte := s.getSlot z + 1
      (z ≠ .indHl → t.getSlot z = r) ∧ (z = .indHl → t.read8 s.hl = seen s.hl r) ∧
      (t.flag .z = true ↔ r = 0) ∧ t.flag .n = false ∧ (t.flag .h = true ↔ (s.getSlot z).toNat % 16 = 15) ∧
      t.flag .c = s.flag .c ∧ t.pc = s.pc + 1 ∧
      KeepsRegs (slotRegs z) s t ∧ t.sp = s.sp ∧ KeepsControl s t ∧ KeepsMemoryBut (slotStores s z) s t) ∧
    (Completes (exec (decOf z) s) fun t =>
      let r : Byte := s.getSlot z - 1
      (z ≠ .indHl → t.getSlot z = r) ∧ (z = .indHl → t.read8 s.hl = seen s.hl r) ∧
      (t.flag .z = true ↔ r = 0) ∧ t.flag .n = true ∧ (t.flag .h = true ↔ (s.getSlot z).toNat % 16 = 0) ∧
      t.flag .c = s.flag .c ∧ t.pc = s.pc + 1 ∧
      KeepsRegs (slotRegs z) s t ∧ t.sp = s.sp ∧ KeepsControl s t ∧ KeepsMemoryBut (slotStores s z) s t)

/-- 42_alu_8bit.md R165: DAA completes. With N clear A gains, with N set A loses, 0x06 and 0x60 as the rule says; C is never cleared; H is
0; N is kept; Z is from the result. -/
def Obligations.DecimalAdjustFollowsTheRule : Prop :=
  ∀ s : State, Completes (exec .daa s) fun t =>
    let lowFix : Prop := s.flag .h = true ∨ (s.flag .n = false ∧ s.a.toNat % 16 > 9)
    let highFix : Prop := s.flag .c = true ∨ (s.flag .n = false ∧ s.a.toNat > 0x99)
    (∃ adj : Nat, (lowFix ∧ highFix → adj = 0x66) ∧ (lowFix ∧ ¬ highFix → adj = 0x06) ∧
      (¬ lowFix ∧ highFix → adj = 0x60) ∧ (¬ lowFix ∧ ¬ highFix → adj = 0) ∧
      t.a.toNat = (if s.flag .n = true then (s.a.toNat + 256 - adj) % 256 else (s.a.toNat + adj) % 256)) ∧
    (t.flag .z = true ↔ t.a = 0) ∧ t.flag .n = s.flag .n ∧ t.flag .h = false ∧ (t.flag .c = true ↔ highFix) ∧
    t.pc = s.pc + 1 ∧ KeepsRegs [.a] s t ∧ t.sp = s.sp ∧ KeepsControl s t ∧ KeepsMemory s t

/-- 95_test_vectors.md S3 (the document's own property), 42_alu_8bit.md R146, R165: ADD A,d8 of two packed BCD bytes and then DAA gives
the two-digit decimal sum, and C exactly when the true sum is 100 or more. -/
def Obligations.DecimalAdjustAfterBcdAddIsTheDecimalSum : Prop :=
  ∀ (s : State) (x y : Nat), x < 100 → y < 100 → s.a = BitVec.ofNat 8 (x / 10 * 16 + x % 10) →
    ∃ t u, exec (.addAD8 (BitVec.ofNat 8 (y / 10 * 16 + y % 10))) s = .next t ∧ exec .daa t = .next u ∧
      u.a = BitVec.ofNat 8 ((x + y) % 100 / 10 * 16 + (x + y) % 10) ∧ (u.flag .c = true ↔ 100 ≤ x + y)

/-- 42_alu_8bit.md R166, R167, R168: CPL, SCF, CCF complete with the flags each writes and those it keeps (the spec's choice D29). -/
def Obligations.ComplementAndCarryInstructions : Prop :=
  ∀ s : State,
    (Completes (exec .cplAcc s) fun t =>
      t.a = ~~~s.a ∧ t.flag .z = s.flag .z ∧ t.flag .n = true ∧ t.flag .h = true ∧ t.flag .c = s.flag .c ∧ t.pc = s.pc + 1 ∧
      KeepsRegs [.a] s t ∧ t.sp = s.sp ∧ KeepsControl s t ∧ KeepsMemory s t) ∧
    (∀ x ∈ [(Instr.scf, true), (.ccf, !s.flag .c)], Completes (exec x.1 s) fun t =>
      t.flag .z = s.flag .z ∧ t.flag .n = false ∧ t.flag .h = false ∧ t.flag .c = x.2 ∧ t.pc = s.pc + 1 ∧
      KeepsRegs [] s t ∧ t.sp = s.sp ∧ KeepsControl s t ∧ KeepsMemory s t)

/-- 43_alu_16bit.md R182: ADD HL,rr for BC DE HL SP completes: the 16-bit sum, H out of bit 11, C out of bit 15, Z AND N as they were. -/
def Obligations.AddPairToHlKeepsZAndN : Prop :=
  ∀ (p : Pair) (s : State), Completes (exec (addHlOf p) s) fun t =>
    t.hl.toNat = (s.hl.toNat + (s.getPair p).toNat) % 0x10000 ∧
    t.flag .z = s.flag .z ∧ t.flag .n = s.flag .n ∧
    (t.flag .h = true ↔ s.hl.toNat % 0x1000 + (s.getPair p).toNat % 0x1000 > 0x0FFF) ∧
    (t.flag .c = true ↔ s.hl.toNat + (s.getPair p).toNat > 0xFFFF) ∧ t.pc = s.pc + 1 ∧
    KeepsRegs [.h, .l] s t ∧ t.sp = s.sp ∧ KeepsControl s t ∧ KeepsMemory s t

/-- 43_alu_16bit.md R183, R184: INC rr and DEC rr for BC DE HL SP complete, modulo 2^16, with no flag changed (the spec's choice D29). -/
def Obligations.IncrementAndDecrementOfAPair : Prop :=
  ∀ (p : Pair) (s : State), ∀ x ∈ [(incPairOf p, s.getPair p + 1), (decPairOf p, s.getPair p - 1)],
    Completes (exec x.1 s) fun t =>
      t.getPair p = x.2 ∧ t.pc = s.pc + 1 ∧ (p ≠ .sp → t.sp = s.sp) ∧
      KeepsRegs (pairRegs p) s t ∧ t.f = s.f ∧ KeepsControl s t ∧ KeepsMemory s t

/-! ## Rotates and bits -/

/-- 44_rotate_shift_bit.md R190 to R193: RLCA, RRCA, RLA, RRA complete; Z is 0 even when the result is 0. -/
def Obligations.AccumulatorRotatesForceZToZero : Prop :=
  ∀ s : State, ∀ x ∈ [(Instr.rlcAcc, RotOp.rlc), (.rrcAcc, .rrc), (.rlAcc, .rl), (.rrAcc, .rr)],
    Completes (exec x.1 s) fun t =>
      t.a = rotResult x.2 s.a (s.flag .c) ∧ t.flag .z = false ∧ t.flag .n = false ∧ t.flag .h = false ∧
      t.flag .c = rotCarry x.2 s.a ∧ t.pc = s.pc + 1 ∧
      KeepsRegs [.a] s t ∧ t.sp = s.sp ∧ KeepsControl s t ∧ KeepsMemory s t

/-- 44_rotate_shift_bit.md R194 to R201, R205: the eight rotates and shifts of the eight slots (64 constructors) complete; Z from the
result, N and H 0, C the bit shifted out (0 for SWAP); a register slot holds the result, the memory slot stores it at HL. -/
def Obligations.RotatesAndShiftsOfASlot : Prop :=
  ∀ (op : RotOp) (z : Slot) (s : State), Completes (exec (rotOf op z) s) fun t =>
    let r := rotResult op (s.getSlot z) (s.flag .c)
    (z ≠ .indHl → t.getSlot z = r) ∧ (z = .indHl → t.read8 s.hl = seen s.hl r) ∧
    (t.flag .z = true ↔ r = 0) ∧ t.flag .n = false ∧ t.flag .h = false ∧ t.flag .c = rotCarry op (s.getSlot z) ∧
    t.pc = s.pc + 2 ∧ KeepsRegs (slotRegs z) s t ∧ t.sp = s.sp ∧ KeepsControl s t ∧ KeepsMemoryBut (slotStores s z) s t

/-- 44_rotate_shift_bit.md R202: BIT b,s for the eight bits and eight slots (64 constructors) completes: Z the inverse of the bit, N 0, H
1, C not touched, nothing written back. -/
def Obligations.BitTestSetsZToTheInverse : Prop :=
  ∀ (k : Fin 8) (z : Slot) (s : State), Completes (exec (bitOf k z) s) fun t =>
    t.flag .z = !(s.getSlot z).getLsbD k.val ∧ t.flag .n = false ∧ t.flag .h = true ∧ t.flag .c = s.flag .c ∧
    t.pc = s.pc + 2 ∧ KeepsRegs [] s t ∧ t.sp = s.sp ∧ KeepsControl s t ∧ KeepsMemory s t

/-- 44_rotate_shift_bit.md R203, R204: RES b,s and SET b,s for the eight bits and eight slots (128 constructors) complete: that one bit
changed, no flag. -/
def Obligations.BitResetAndSetChangeOneBit : Prop :=
  ∀ (k : Fin 8) (z : Slot) (s : State), ∀ x ∈ [(resOf k z, false), (setOf k z, true)],
    Completes (exec x.1 s) fun t =>
      (∃ r : Byte, (∀ j, j < 8 → r.getLsbD j = if j = k.val then x.2 else (s.getSlot z).getLsbD j) ∧
        (z ≠ .indHl → t.getSlot z = r) ∧ (z = .indHl → t.read8 s.hl = seen s.hl r)) ∧
      t.pc = s.pc + 2 ∧ KeepsRegs (slotRegs z) s t ∧ t.f = s.f ∧ t.sp = s.sp ∧ KeepsControl s t ∧
      KeepsMemoryBut (slotStores s z) s t

/-- 46_system.md R255, 30_encoding.md R73: the prefix with a byte does what the extended instruction of that byte does, and completes, for
all 256 bytes: "the table is total". -/
def Obligations.PrefixRunsTheExtendedOperation : Prop :=
  ∀ (xop : Byte) (s : State), exec (.prefixCb xop) s = exec (decodeExtended xop) s ∧
    Completes (exec (.prefixCb xop) s) fun t => t.pc = s.pc + 2 ∧ t.sp = s.sp ∧ KeepsControl s t

/-! ## Control flow and the stack -/

/-- 45_control_flow_stack.md R223, R225, R226: JP a16, JP HL, JR e8 complete at their targets, and change nothing but PC. JR's base is the next
instruction's address (the spec's choice D16). -/
def Obligations.UnconditionalJumps : Prop :=
  ∀ (a16 : Word) (e8 : Byte) (s : State),
    ∀ x ∈ [(Instr.jpA16 a16, a16), (.jpHl, s.hl), (.jrE8 e8, BitVec.ofInt 16 ((s.pc.toNat : Int) + 2 + e8.toInt))],
      exec x.1 s = .next { s with pc := x.2 }

/-- 45_control_flow_stack.md R222, R224, R227: JP cc,a16 and JR cc,e8 for the four conditions complete: taken exactly when the flag has the
condition's polarity, else PC passes the whole instruction; nothing else changes. JR's base is the spec's choice D16 (log 15). -/
def Obligations.ConditionalJumps : Prop :=
  ∀ (cc : Cond) (a16 : Word) (e8 : Byte) (s : State),
    let taken : Bool := match cc with
      | .nz => !s.flag .z
      | .z => s.flag .z
      | .nc => !s.flag .c
      | .c => s.flag .c
    exec (jpCcOf cc a16) s = .next { s with pc := if taken then a16 else s.pc + 3 } ∧
    exec (jrCcOf cc e8) s =
      .next { s with pc := if taken then BitVec.ofInt 16 ((s.pc.toNat : Int) + 2 + e8.toInt) else s.pc + 2 }

/-- 45_control_flow_stack.md R228, R232: CALL a16 and RST for the eight vectors 8*t complete: SP down by two, the address after the
instruction at SP, low byte first, PC at the target, nothing else changed. The address pushed and the vectors are the spec's choice D16
(log 15), SP modulo 2^16 its choice D9 (log 10). -/
def Obligations.CallsAndRestartsPushTheReturnAddress : Prop :=
  ∀ (a16 : Word) (v : Fin 8) (s : State),
    ∀ x ∈ [(Instr.callA16 a16, a16, s.pc + 3), (rstOf v, BitVec.ofNat 16 (8 * v.val), s.pc + 1)],
      Completes (exec x.1 s) fun t =>
        t.pc = x.2.1 ∧ t.sp = s.sp - 2 ∧
        t.read8 (s.sp - 2) = seen (s.sp - 2) (loByte x.2.2) ∧ t.read8 (s.sp - 1) = seen (s.sp - 1) (hiByte x.2.2) ∧
        KeepsMemoryBut [s.sp - 2, s.sp - 1] s t ∧ KeepsRegs [] s t ∧ t.f = s.f ∧ KeepsControl s t

/-- 45_control_flow_stack.md R222, R229: CALL cc,a16 for the four conditions is CALL a16 when the flag has the condition's polarity; else only PC
moves, by 3, and nothing is pushed. It completes either way. -/
def Obligations.ConditionalCalls : Prop :=
  ∀ (cc : Cond) (a16 : Word) (s : State),
    let taken : Bool := match cc with
      | .nz => !s.flag .z
      | .z => s.flag .z
      | .nc => !s.flag .c
      | .c => s.flag .c
    (taken = true → exec (callCcOf cc a16) s = exec (.callA16 a16) s) ∧
    (taken = false → exec (callCcOf cc a16) s = .next { s with pc := s.pc + 3 }) ∧
    (∃ t, exec (callCcOf cc a16) s = .next t)

/-- 45_control_flow_stack.md R230, R231, R233: RET pops PC; RETI pops PC and sets IME at once (the spec's choice D15); RET cc is RET when
the flag has the condition's polarity (R222), else only PC moves, by 1. Nothing else changes. RET cc and RETI's IME are PRESUMED by the
spec (D29, D15, log 15). -/
def Obligations.ReturnsPopThePc : Prop :=
  ∀ (cc : Cond) (s : State),
    let taken : Bool := match cc with
      | .nz => !s.flag .z
      | .z => s.flag .z
      | .nc => !s.flag .c
      | .c => s.flag .c
    let back := s.read16 s.sp
    exec .ret s = .next { s with pc := back, sp := s.sp + 2 } ∧
    exec .reti s = .next { s with pc := back, sp := s.sp + 2, ime := true } ∧
    exec (retCcOf cc) s = .next (if taken then { s with pc := back, sp := s.sp + 2 } else { s with pc := s.pc + 1 })

/-- 45_control_flow_stack.md R234: PUSH for BC DE HL AF completes: SP down by two, the pair at SP, high register at the higher address. -/
def Obligations.PushStoresThePair : Prop :=
  ∀ (p : StackPair) (s : State), Completes (exec (pushOf p) s) fun t =>
    t.sp = s.sp - 2 ∧ t.read8 (s.sp - 2) = seen (s.sp - 2) (loByte (s.getStackPair p)) ∧
    t.read8 (s.sp - 1) = seen (s.sp - 1) (hiByte (s.getStackPair p)) ∧ t.pc = s.pc + 1 ∧
    KeepsMemoryBut [s.sp - 2, s.sp - 1] s t ∧ KeepsRegs [] s t ∧ t.f = s.f ∧ KeepsControl s t

/-- 45_control_flow_stack.md R235, R236: POP for BC DE HL AF completes: the pair is the word at SP, SP up by two; flags change through AF
only, whose low nibble is dropped (the spec's choice D22, log 11). -/
def Obligations.PopLoadsThePair : Prop :=
  ∀ (p : StackPair) (s : State), Completes (exec (popOf p) s) fun t =>
    t.getStackPair p = (if p = .af then s.read16 s.sp &&& 0xFFF0 else s.read16 s.sp) ∧ t.sp = s.sp + 2 ∧ t.pc = s.pc + 1 ∧
    (p ≠ .af → t.f = s.f) ∧ KeepsRegs (stackPairRegs p) s t ∧ KeepsControl s t ∧ KeepsMemory s t

/-! ## System instructions -/

/-- 46_system.md R250, R253, R254: NOP moves PC only; DI and EI set their request flag and move PC; IME is not written by either. -/
def Obligations.NopDiEi : Prop :=
  ∀ s : State,
    exec .nop s = .next { s with pc := s.pc + 1 } ∧
    exec .di s = .next { s with pc := s.pc + 1, disableRequested := true } ∧
    exec .ei s = .next { s with pc := s.pc + 1, enableRequested := true }

/-- 46_system.md R251, R252, R256: STOP and HALT raise UnsupportedStop, the eleven unbound opcodes UnknownPrimaryOpcode, with the opcode,
in every state. (STOP is the spec's choice D6.) -/
def Obligations.StopsAndUnboundOpcodesAreFatal : Prop :=
  ∀ s : State,
    (∀ x ∈ [(Instr.stop, 0x10#8), (.halt, 0x76)], exec x.1 s = .fault (.unsupportedStop x.2)) ∧
    (∀ x ∈ [(Instr.undefinedD3, 0xD3#8), (.undefinedDb, 0xDB), (.undefinedDd, 0xDD), (.undefinedE3, 0xE3), (.undefinedE4, 0xE4),
        (.undefinedEb, 0xEB), (.undefinedEc, 0xEC), (.undefinedEd, 0xED), (.undefinedF4, 0xF4), (.undefinedFc, 0xFC),
        (.undefinedFd, 0xFD)], exec x.1 s = .fault (.unknownPrimaryOpcode x.2))

/-! ## The interrupt controller -/

/-- 60_exceptions.md section 2 (IF at 0xFF0F is PRESUMED by the spec, D7, log 9): step (a) of the poll OR-s the joypad bit into IF when it
is requested, whatever IME is, and changes no other byte and no other state. -/
def Obligations.PollOrsTheJoypadRequestIntoIf : Prop :=
  ∀ (s : State) (joy : Bool),
    (s.pollJoypad joy).read8 0xFF0F = (if joy then s.read8 0xFF0F ||| 0x10 else s.read8 0xFF0F) ∧
    (∀ a : Word, a ≠ 0xFF0F → (s.pollJoypad joy).read8 a = s.read8 a) ∧
    s.pollJoypad joy = { s with mem := (s.pollJoypad joy).mem }

/-- 60_exceptions.md section 2 (IE at 0xFFFF and IF at 0xFF0F are PRESUMED by the spec, D7, log 9): with IME set, the poll dispatches the
class of highest priority among those enabled and pending: IME to 0; PC to its vector; the old PC pushed, low byte at the new SP (the
spec's choice D12, log 16); its bit of IF cleared and the others kept, where the push does not overwrite IF; no register, flag, counter or
other byte changed. -/
def Obligations.PollDispatchesTheHighestPendingClass : Prop :=
  ∀ (s : State) (k : IrqClass), s.ime = true →
    (s.read8 0xFFFF &&& s.read8 0xFF0F).getLsbD k.bit = true →
    (∀ j : IrqClass, j.bit < k.bit → (s.read8 0xFFFF &&& s.read8 0xFF0F).getLsbD j.bit = false) →
    let t := s.pollDispatch
    t.ime = false ∧ t.pc = k.vector ∧ t.sp = s.sp - 2 ∧
    t.read8 (s.sp - 2) = seen (s.sp - 2) (loByte s.pc) ∧ t.read8 (s.sp - 1) = seen (s.sp - 1) (hiByte s.pc) ∧
    (s.sp - 2 ≠ 0xFF0F → s.sp - 1 ≠ 0xFF0F → ∀ j, j < 8 →
      (t.read8 0xFF0F).getLsbD j = if j = k.bit then false else (s.read8 0xFF0F).getLsbD j) ∧
    KeepsMemoryBut [0xFF0F, s.sp - 2, s.sp - 1] s t ∧
    t = { s with ime := false, pc := k.vector, sp := s.sp - 2, mem := t.mem }

/-- 60_exceptions.md section 2 (IE at 0xFFFF and IF at 0xFF0F are PRESUMED by the spec, D7, log 9): step (b) does nothing when IME is
clear or nothing enabled is pending; when only bits 3, 5, 6, 7 are, IME is cleared or kept by IME_CLEAR_ON_UNDISPATCHED (D13, log 18,
DESIGN CHOICE) and nothing else changes: serial is never dispatched. -/
def Obligations.PollWithNothingToDispatch : Prop :=
  ∀ s : State,
    (s.ime = false → s.pollDispatch = s) ∧
    (s.read8 0xFFFF &&& s.read8 0xFF0F = 0 → s.pollDispatch = s) ∧
    (s.ime = true → s.read8 0xFFFF &&& s.read8 0xFF0F ≠ 0 →
      (∀ j : IrqClass, (s.read8 0xFFFF &&& s.read8 0xFF0F).getLsbD j.bit = false) →
      s.pollDispatch = { s with ime := !s.params.imeClearOnUndispatched })

/-- 60_exceptions.md R270, R275: the poll is steps (a), (b), (c); step (c) applies the enable, then the disable request, and clears both
(the order is the spec's choice D24, log 17). -/
def Obligations.PollAppliesTheRequestsLast : Prop :=
  (∀ (s : State) (joy : Bool), s.poll joy = ((s.pollJoypad joy).pollDispatch).pollRequests) ∧
  (∀ s : State, s.pollRequests = { s with
    ime := if s.disableRequested then false else if s.enableRequested then true else s.ime
    enableRequested := false
    disableRequested := false })

/-- 46_system.md and 60_exceptions.md section 2, in the single-stage reading (90_conflicts.md C2; the spec's choice D14, log 17): a step that
runs EI polls with the IME of before and ends with IME set. With IME clear it dispatches nothing, whatever is enabled, pending or
requested; with IME set it still takes the highest class due, and the handler starts with IME set. The next step then runs its
whole instruction and takes the highest class due after it. EI's opcode 0xFB is log 8, the addresses of IE and IF log 9 (PRESUMED),
the PC an entry pushes D12 (log 16). That no disable is requested is part of the invariant (`NoRequest`). -/
def Obligations.EnableCountsFromTheNextPollOn : Prop :=
  ∀ s : State, s.read8 s.pc = 0xFB → s.disableRequested = false →
    ∃ t, step s = .next t ∧ t.ime = true ∧ NoRequest t ∧
      (s.ime = false → t.pc = s.pc + 1 ∧ t.sp = s.sp ∧ ∀ a : Word, a ≠ 0xFF0F → t.read8 a = s.read8 a) ∧
      (s.ime = true → ∀ k, Due s (s.joyReq.headD false) k → Entered k s.sp (s.pc + 1) t) ∧
      (∀ v, exec t.fetchInstr { t with joyReq := t.joyReq.tail } = .next v →
        ∃ u, step t = .next u ∧ ∀ k, Due v (t.joyReq.headD false) k → Entered k v.sp v.pc u)

/-- 46_system.md and 60_exceptions.md section 2 (the spec's choice D14, log 17): after a step that runs DI, IME is clear and no request is
pending, whatever the joypad request is, and an interrupt that was due with IME set, the joypad's own included, has been taken in
that same step. DI's opcode 0xF3 is log 8, the addresses of IE and IF log 9 (PRESUMED), the PC an entry pushes D12 (log 16). -/
def Obligations.DisableStillLetsOneInterruptThrough : Prop :=
  ∀ s : State, s.read8 s.pc = 0xF3 →
    ∃ t, step s = .next t ∧ t.ime = false ∧ NoRequest t ∧
      (s.ime = false → t.pc = s.pc + 1 ∧ t.sp = s.sp) ∧
      (s.ime = true → ∀ k, Due s (s.joyReq.headD false) k → Entered k s.sp (s.pc + 1) t)
end

