-- ==== Sys2Proof/Laws/State.lean ====
section
/-! SUPPORT. What each update of State does to each field: one lemma a field and update, so that no later proof unfolds a record
update. The 8-bit registers are also given through `getReg`. -/

namespace Sys2Proof.Machine


/-! ### `advance` -/

@[simp] theorem State.advance_a (s : State) (len : Nat) : (s.advance len).a = s.a := rfl
@[simp] theorem State.advance_f (s : State) (len : Nat) : (s.advance len).f = s.f := rfl
@[simp] theorem State.advance_b (s : State) (len : Nat) : (s.advance len).b = s.b := rfl
@[simp] theorem State.advance_c (s : State) (len : Nat) : (s.advance len).c = s.c := rfl
@[simp] theorem State.advance_d (s : State) (len : Nat) : (s.advance len).d = s.d := rfl
@[simp] theorem State.advance_e (s : State) (len : Nat) : (s.advance len).e = s.e := rfl
@[simp] theorem State.advance_h (s : State) (len : Nat) : (s.advance len).h = s.h := rfl
@[simp] theorem State.advance_l (s : State) (len : Nat) : (s.advance len).l = s.l := rfl
@[simp] theorem State.advance_sp (s : State) (len : Nat) : (s.advance len).sp = s.sp := rfl
@[simp] theorem State.advance_pc (s : State) (len : Nat) : (s.advance len).pc = s.pc + BitVec.ofNat 16 len := rfl
@[simp] theorem State.advance_ime (s : State) (len : Nat) : (s.advance len).ime = s.ime := rfl
@[simp] theorem State.advance_enableRequested (s : State) (len : Nat) : (s.advance len).enableRequested = s.enableRequested := rfl
@[simp] theorem State.advance_disableRequested (s : State) (len : Nat) : (s.advance len).disableRequested = s.disableRequested := rfl
@[simp] theorem State.advance_instrCount (s : State) (len : Nat) : (s.advance len).instrCount = s.instrCount := rfl
@[simp] theorem State.advance_tickCount (s : State) (len : Nat) : (s.advance len).tickCount = s.tickCount := rfl
@[simp] theorem State.advance_mem (s : State) (len : Nat) : (s.advance len).mem = s.mem := rfl
@[simp] theorem State.advance_joyReq (s : State) (len : Nat) : (s.advance len).joyReq = s.joyReq := rfl
@[simp] theorem State.advance_params (s : State) (len : Nat) : (s.advance len).params = s.params := rfl

/-! ### `jump` -/

@[simp] theorem State.jump_a (s : State) (target : Word) : (s.jump target).a = s.a := rfl
@[simp] theorem State.jump_f (s : State) (target : Word) : (s.jump target).f = s.f := rfl
@[simp] theorem State.jump_b (s : State) (target : Word) : (s.jump target).b = s.b := rfl
@[simp] theorem State.jump_c (s : State) (target : Word) : (s.jump target).c = s.c := rfl
@[simp] theorem State.jump_d (s : State) (target : Word) : (s.jump target).d = s.d := rfl
@[simp] theorem State.jump_e (s : State) (target : Word) : (s.jump target).e = s.e := rfl
@[simp] theorem State.jump_h (s : State) (target : Word) : (s.jump target).h = s.h := rfl
@[simp] theorem State.jump_l (s : State) (target : Word) : (s.jump target).l = s.l := rfl
@[simp] theorem State.jump_sp (s : State) (target : Word) : (s.jump target).sp = s.sp := rfl
@[simp] theorem State.jump_pc (s : State) (target : Word) : (s.jump target).pc = target := rfl
@[simp] theorem State.jump_ime (s : State) (target : Word) : (s.jump target).ime = s.ime := rfl
@[simp] theorem State.jump_enableRequested (s : State) (target : Word) : (s.jump target).enableRequested = s.enableRequested := rfl
@[simp] theorem State.jump_disableRequested (s : State) (target : Word) : (s.jump target).disableRequested = s.disableRequested := rfl
@[simp] theorem State.jump_instrCount (s : State) (target : Word) : (s.jump target).instrCount = s.instrCount := rfl
@[simp] theorem State.jump_tickCount (s : State) (target : Word) : (s.jump target).tickCount = s.tickCount := rfl
@[simp] theorem State.jump_mem (s : State) (target : Word) : (s.jump target).mem = s.mem := rfl
@[simp] theorem State.jump_joyReq (s : State) (target : Word) : (s.jump target).joyReq = s.joyReq := rfl
@[simp] theorem State.jump_params (s : State) (target : Word) : (s.jump target).params = s.params := rfl

/-! ### `drop16` -/

@[simp] theorem State.drop16_a (s : State) : (s.drop16).a = s.a := rfl
@[simp] theorem State.drop16_f (s : State) : (s.drop16).f = s.f := rfl
@[simp] theorem State.drop16_b (s : State) : (s.drop16).b = s.b := rfl
@[simp] theorem State.drop16_c (s : State) : (s.drop16).c = s.c := rfl
@[simp] theorem State.drop16_d (s : State) : (s.drop16).d = s.d := rfl
@[simp] theorem State.drop16_e (s : State) : (s.drop16).e = s.e := rfl
@[simp] theorem State.drop16_h (s : State) : (s.drop16).h = s.h := rfl
@[simp] theorem State.drop16_l (s : State) : (s.drop16).l = s.l := rfl
@[simp] theorem State.drop16_sp (s : State) : (s.drop16).sp = s.sp + 2 := rfl
@[simp] theorem State.drop16_pc (s : State) : (s.drop16).pc = s.pc := rfl
@[simp] theorem State.drop16_ime (s : State) : (s.drop16).ime = s.ime := rfl
@[simp] theorem State.drop16_enableRequested (s : State) : (s.drop16).enableRequested = s.enableRequested := rfl
@[simp] theorem State.drop16_disableRequested (s : State) : (s.drop16).disableRequested = s.disableRequested := rfl
@[simp] theorem State.drop16_instrCount (s : State) : (s.drop16).instrCount = s.instrCount := rfl
@[simp] theorem State.drop16_tickCount (s : State) : (s.drop16).tickCount = s.tickCount := rfl
@[simp] theorem State.drop16_mem (s : State) : (s.drop16).mem = s.mem := rfl
@[simp] theorem State.drop16_joyReq (s : State) : (s.drop16).joyReq = s.joyReq := rfl
@[simp] theorem State.drop16_params (s : State) : (s.drop16).params = s.params := rfl

/-! ### `count` -/

@[simp] theorem State.count_a (s : State) (op : Byte) : (s.count op).a = s.a := rfl
@[simp] theorem State.count_f (s : State) (op : Byte) : (s.count op).f = s.f := rfl
@[simp] theorem State.count_b (s : State) (op : Byte) : (s.count op).b = s.b := rfl
@[simp] theorem State.count_c (s : State) (op : Byte) : (s.count op).c = s.c := rfl
@[simp] theorem State.count_d (s : State) (op : Byte) : (s.count op).d = s.d := rfl
@[simp] theorem State.count_e (s : State) (op : Byte) : (s.count op).e = s.e := rfl
@[simp] theorem State.count_h (s : State) (op : Byte) : (s.count op).h = s.h := rfl
@[simp] theorem State.count_l (s : State) (op : Byte) : (s.count op).l = s.l := rfl
@[simp] theorem State.count_sp (s : State) (op : Byte) : (s.count op).sp = s.sp := rfl
@[simp] theorem State.count_pc (s : State) (op : Byte) : (s.count op).pc = s.pc := rfl
@[simp] theorem State.count_ime (s : State) (op : Byte) : (s.count op).ime = s.ime := rfl
@[simp] theorem State.count_enableRequested (s : State) (op : Byte) : (s.count op).enableRequested = s.enableRequested := rfl
@[simp] theorem State.count_disableRequested (s : State) (op : Byte) : (s.count op).disableRequested = s.disableRequested := rfl
@[simp] theorem State.count_instrCount (s : State) (op : Byte) : (s.count op).instrCount = s.instrCount + 1 := rfl
@[simp] theorem State.count_tickCount (s : State) (op : Byte) : (s.count op).tickCount = s.tickCount + Config.cycles op := rfl
@[simp] theorem State.count_mem (s : State) (op : Byte) : (s.count op).mem = s.mem := rfl
@[simp] theorem State.count_joyReq (s : State) (op : Byte) : (s.count op).joyReq = s.joyReq := rfl
@[simp] theorem State.count_params (s : State) (op : Byte) : (s.count op).params = s.params := rfl

/-! ### `setF` -/

@[simp] theorem State.setF_a (s : State) (v : Byte) : (s.setF v).a = s.a := rfl
@[simp] theorem State.setF_f (s : State) (v : Byte) : (s.setF v).f = v &&& 0xF0 := rfl
@[simp] theorem State.setF_b (s : State) (v : Byte) : (s.setF v).b = s.b := rfl
@[simp] theorem State.setF_c (s : State) (v : Byte) : (s.setF v).c = s.c := rfl
@[simp] theorem State.setF_d (s : State) (v : Byte) : (s.setF v).d = s.d := rfl
@[simp] theorem State.setF_e (s : State) (v : Byte) : (s.setF v).e = s.e := rfl
@[simp] theorem State.setF_h (s : State) (v : Byte) : (s.setF v).h = s.h := rfl
@[simp] theorem State.setF_l (s : State) (v : Byte) : (s.setF v).l = s.l := rfl
@[simp] theorem State.setF_sp (s : State) (v : Byte) : (s.setF v).sp = s.sp := rfl
@[simp] theorem State.setF_pc (s : State) (v : Byte) : (s.setF v).pc = s.pc := rfl
@[simp] theorem State.setF_ime (s : State) (v : Byte) : (s.setF v).ime = s.ime := rfl
@[simp] theorem State.setF_enableRequested (s : State) (v : Byte) : (s.setF v).enableRequested = s.enableRequested := rfl
@[simp] theorem State.setF_disableRequested (s : State) (v : Byte) : (s.setF v).disableRequested = s.disableRequested := rfl
@[simp] theorem State.setF_instrCount (s : State) (v : Byte) : (s.setF v).instrCount = s.instrCount := rfl
@[simp] theorem State.setF_tickCount (s : State) (v : Byte) : (s.setF v).tickCount = s.tickCount := rfl
@[simp] theorem State.setF_mem (s : State) (v : Byte) : (s.setF v).mem = s.mem := rfl
@[simp] theorem State.setF_joyReq (s : State) (v : Byte) : (s.setF v).joyReq = s.joyReq := rfl
@[simp] theorem State.setF_params (s : State) (v : Byte) : (s.setF v).params = s.params := rfl

/-! ### `withFlags` -/

@[simp] theorem State.withFlags_a (s : State) (z n h c : Bool) : (s.withFlags z n h c).a = s.a := rfl
@[simp] theorem State.withFlags_f (s : State) (z n h c : Bool) : (s.withFlags z n h c).f = packFlags z n h c &&& 0xF0 := rfl
@[simp] theorem State.withFlags_b (s : State) (z n h c : Bool) : (s.withFlags z n h c).b = s.b := rfl
@[simp] theorem State.withFlags_c (s : State) (z n h c : Bool) : (s.withFlags z n h c).c = s.c := rfl
@[simp] theorem State.withFlags_d (s : State) (z n h c : Bool) : (s.withFlags z n h c).d = s.d := rfl
@[simp] theorem State.withFlags_e (s : State) (z n h c : Bool) : (s.withFlags z n h c).e = s.e := rfl
@[simp] theorem State.withFlags_h (s : State) (z n h c : Bool) : (s.withFlags z n h c).h = s.h := rfl
@[simp] theorem State.withFlags_l (s : State) (z n h c : Bool) : (s.withFlags z n h c).l = s.l := rfl
@[simp] theorem State.withFlags_sp (s : State) (z n h c : Bool) : (s.withFlags z n h c).sp = s.sp := rfl
@[simp] theorem State.withFlags_pc (s : State) (z n h c : Bool) : (s.withFlags z n h c).pc = s.pc := rfl
@[simp] theorem State.withFlags_ime (s : State) (z n h c : Bool) : (s.withFlags z n h c).ime = s.ime := rfl
@[simp] theorem State.withFlags_enableRequested (s : State) (z n h c : Bool) : (s.withFlags z n h c).enableRequested = s.enableRequested := rfl
@[simp] theorem State.withFlags_disableRequested (s : State) (z n h c : Bool) : (s.withFlags z n h c).disableRequested = s.disableRequested := rfl
@[simp] theorem State.withFlags_instrCount (s : State) (z n h c : Bool) : (s.withFlags z n h c).instrCount = s.instrCount := rfl
@[simp] theorem State.withFlags_tickCount (s : State) (z n h c : Bool) : (s.withFlags z n h c).tickCount = s.tickCount := rfl
@[simp] theorem State.withFlags_mem (s : State) (z n h c : Bool) : (s.withFlags z n h c).mem = s.mem := rfl
@[simp] theorem State.withFlags_joyReq (s : State) (z n h c : Bool) : (s.withFlags z n h c).joyReq = s.joyReq := rfl
@[simp] theorem State.withFlags_params (s : State) (z n h c : Bool) : (s.withFlags z n h c).params = s.params := rfl

/-! ### `setFlag` -/

@[simp] theorem State.setFlag_a (s : State) (k : Flag) (v : Bool) : (s.setFlag k v).a = s.a := rfl
@[simp] theorem State.setFlag_f (s : State) (k : Flag) (v : Bool) : (s.setFlag k v).f = (if v then setBit s.f (flagBit k) else clearBit s.f (flagBit k)) &&& 0xF0 := rfl
@[simp] theorem State.setFlag_b (s : State) (k : Flag) (v : Bool) : (s.setFlag k v).b = s.b := rfl
@[simp] theorem State.setFlag_c (s : State) (k : Flag) (v : Bool) : (s.setFlag k v).c = s.c := rfl
@[simp] theorem State.setFlag_d (s : State) (k : Flag) (v : Bool) : (s.setFlag k v).d = s.d := rfl
@[simp] theorem State.setFlag_e (s : State) (k : Flag) (v : Bool) : (s.setFlag k v).e = s.e := rfl
@[simp] theorem State.setFlag_h (s : State) (k : Flag) (v : Bool) : (s.setFlag k v).h = s.h := rfl
@[simp] theorem State.setFlag_l (s : State) (k : Flag) (v : Bool) : (s.setFlag k v).l = s.l := rfl
@[simp] theorem State.setFlag_sp (s : State) (k : Flag) (v : Bool) : (s.setFlag k v).sp = s.sp := rfl
@[simp] theorem State.setFlag_pc (s : State) (k : Flag) (v : Bool) : (s.setFlag k v).pc = s.pc := rfl
@[simp] theorem State.setFlag_ime (s : State) (k : Flag) (v : Bool) : (s.setFlag k v).ime = s.ime := rfl
@[simp] theorem State.setFlag_enableRequested (s : State) (k : Flag) (v : Bool) : (s.setFlag k v).enableRequested = s.enableRequested := rfl
@[simp] theorem State.setFlag_disableRequested (s : State) (k : Flag) (v : Bool) : (s.setFlag k v).disableRequested = s.disableRequested := rfl
@[simp] theorem State.setFlag_instrCount (s : State) (k : Flag) (v : Bool) : (s.setFlag k v).instrCount = s.instrCount := rfl
@[simp] theorem State.setFlag_tickCount (s : State) (k : Flag) (v : Bool) : (s.setFlag k v).tickCount = s.tickCount := rfl
@[simp] theorem State.setFlag_mem (s : State) (k : Flag) (v : Bool) : (s.setFlag k v).mem = s.mem := rfl
@[simp] theorem State.setFlag_joyReq (s : State) (k : Flag) (v : Bool) : (s.setFlag k v).joyReq = s.joyReq := rfl
@[simp] theorem State.setFlag_params (s : State) (k : Flag) (v : Bool) : (s.setFlag k v).params = s.params := rfl

/-! ### `write8` -/

@[simp] theorem State.write8_a (s : State) (a : Word) (v : Byte) : (s.write8 a v).a = s.a := rfl
@[simp] theorem State.write8_f (s : State) (a : Word) (v : Byte) : (s.write8 a v).f = s.f := rfl
@[simp] theorem State.write8_b (s : State) (a : Word) (v : Byte) : (s.write8 a v).b = s.b := rfl
@[simp] theorem State.write8_c (s : State) (a : Word) (v : Byte) : (s.write8 a v).c = s.c := rfl
@[simp] theorem State.write8_d (s : State) (a : Word) (v : Byte) : (s.write8 a v).d = s.d := rfl
@[simp] theorem State.write8_e (s : State) (a : Word) (v : Byte) : (s.write8 a v).e = s.e := rfl
@[simp] theorem State.write8_h (s : State) (a : Word) (v : Byte) : (s.write8 a v).h = s.h := rfl
@[simp] theorem State.write8_l (s : State) (a : Word) (v : Byte) : (s.write8 a v).l = s.l := rfl
@[simp] theorem State.write8_sp (s : State) (a : Word) (v : Byte) : (s.write8 a v).sp = s.sp := rfl
@[simp] theorem State.write8_pc (s : State) (a : Word) (v : Byte) : (s.write8 a v).pc = s.pc := rfl
@[simp] theorem State.write8_ime (s : State) (a : Word) (v : Byte) : (s.write8 a v).ime = s.ime := rfl
@[simp] theorem State.write8_enableRequested (s : State) (a : Word) (v : Byte) : (s.write8 a v).enableRequested = s.enableRequested := rfl
@[simp] theorem State.write8_disableRequested (s : State) (a : Word) (v : Byte) : (s.write8 a v).disableRequested = s.disableRequested := rfl
@[simp] theorem State.write8_instrCount (s : State) (a : Word) (v : Byte) : (s.write8 a v).instrCount = s.instrCount := rfl
@[simp] theorem State.write8_tickCount (s : State) (a : Word) (v : Byte) : (s.write8 a v).tickCount = s.tickCount := rfl
@[simp] theorem State.write8_mem (s : State) (a : Word) (v : Byte) : (s.write8 a v).mem = s.mem.put (cellOf s.params a) v := rfl
@[simp] theorem State.write8_joyReq (s : State) (a : Word) (v : Byte) : (s.write8 a v).joyReq = s.joyReq := rfl
@[simp] theorem State.write8_params (s : State) (a : Word) (v : Byte) : (s.write8 a v).params = s.params := rfl

/-! ### `write16` -/

@[simp] theorem State.write16_a (s : State) (a v : Word) : (s.write16 a v).a = s.a := rfl
@[simp] theorem State.write16_f (s : State) (a v : Word) : (s.write16 a v).f = s.f := rfl
@[simp] theorem State.write16_b (s : State) (a v : Word) : (s.write16 a v).b = s.b := rfl
@[simp] theorem State.write16_c (s : State) (a v : Word) : (s.write16 a v).c = s.c := rfl
@[simp] theorem State.write16_d (s : State) (a v : Word) : (s.write16 a v).d = s.d := rfl
@[simp] theorem State.write16_e (s : State) (a v : Word) : (s.write16 a v).e = s.e := rfl
@[simp] theorem State.write16_h (s : State) (a v : Word) : (s.write16 a v).h = s.h := rfl
@[simp] theorem State.write16_l (s : State) (a v : Word) : (s.write16 a v).l = s.l := rfl
@[simp] theorem State.write16_sp (s : State) (a v : Word) : (s.write16 a v).sp = s.sp := rfl
@[simp] theorem State.write16_pc (s : State) (a v : Word) : (s.write16 a v).pc = s.pc := rfl
@[simp] theorem State.write16_ime (s : State) (a v : Word) : (s.write16 a v).ime = s.ime := rfl
@[simp] theorem State.write16_enableRequested (s : State) (a v : Word) : (s.write16 a v).enableRequested = s.enableRequested := rfl
@[simp] theorem State.write16_disableRequested (s : State) (a v : Word) : (s.write16 a v).disableRequested = s.disableRequested := rfl
@[simp] theorem State.write16_instrCount (s : State) (a v : Word) : (s.write16 a v).instrCount = s.instrCount := rfl
@[simp] theorem State.write16_tickCount (s : State) (a v : Word) : (s.write16 a v).tickCount = s.tickCount := rfl
@[simp] theorem State.write16_mem (s : State) (a v : Word) : (s.write16 a v).mem = (s.mem.put (cellOf s.params a) (loByte v)).put (cellOf s.params (a + 1)) (hiByte v) := rfl
@[simp] theorem State.write16_joyReq (s : State) (a v : Word) : (s.write16 a v).joyReq = s.joyReq := rfl
@[simp] theorem State.write16_params (s : State) (a v : Word) : (s.write16 a v).params = s.params := rfl

/-! ### `push16` -/

@[simp] theorem State.push16_a (s : State) (v : Word) : (s.push16 v).a = s.a := rfl
@[simp] theorem State.push16_f (s : State) (v : Word) : (s.push16 v).f = s.f := rfl
@[simp] theorem State.push16_b (s : State) (v : Word) : (s.push16 v).b = s.b := rfl
@[simp] theorem State.push16_c (s : State) (v : Word) : (s.push16 v).c = s.c := rfl
@[simp] theorem State.push16_d (s : State) (v : Word) : (s.push16 v).d = s.d := rfl
@[simp] theorem State.push16_e (s : State) (v : Word) : (s.push16 v).e = s.e := rfl
@[simp] theorem State.push16_h (s : State) (v : Word) : (s.push16 v).h = s.h := rfl
@[simp] theorem State.push16_l (s : State) (v : Word) : (s.push16 v).l = s.l := rfl
@[simp] theorem State.push16_sp (s : State) (v : Word) : (s.push16 v).sp = s.sp - 2 := rfl
@[simp] theorem State.push16_pc (s : State) (v : Word) : (s.push16 v).pc = s.pc := rfl
@[simp] theorem State.push16_ime (s : State) (v : Word) : (s.push16 v).ime = s.ime := rfl
@[simp] theorem State.push16_enableRequested (s : State) (v : Word) : (s.push16 v).enableRequested = s.enableRequested := rfl
@[simp] theorem State.push16_disableRequested (s : State) (v : Word) : (s.push16 v).disableRequested = s.disableRequested := rfl
@[simp] theorem State.push16_instrCount (s : State) (v : Word) : (s.push16 v).instrCount = s.instrCount := rfl
@[simp] theorem State.push16_tickCount (s : State) (v : Word) : (s.push16 v).tickCount = s.tickCount := rfl
@[simp] theorem State.push16_mem (s : State) (v : Word) : (s.push16 v).mem = (s.mem.put (cellOf s.params (s.sp - 2)) (loByte v)).put (cellOf s.params (s.sp - 2 + 1)) (hiByte v) := rfl
@[simp] theorem State.push16_joyReq (s : State) (v : Word) : (s.push16 v).joyReq = s.joyReq := rfl
@[simp] theorem State.push16_params (s : State) (v : Word) : (s.push16 v).params = s.params := rfl

/-! ### `setReg` -/

@[simp] theorem State.setReg_a (s : State) (r : Reg) (v : Byte) : (s.setReg r v).a = if r = .a then v else s.a := by cases r <;> rfl
@[simp] theorem State.setReg_f (s : State) (r : Reg) (v : Byte) : (s.setReg r v).f = s.f := by cases r <;> rfl
@[simp] theorem State.setReg_b (s : State) (r : Reg) (v : Byte) : (s.setReg r v).b = if r = .b then v else s.b := by cases r <;> rfl
@[simp] theorem State.setReg_c (s : State) (r : Reg) (v : Byte) : (s.setReg r v).c = if r = .c then v else s.c := by cases r <;> rfl
@[simp] theorem State.setReg_d (s : State) (r : Reg) (v : Byte) : (s.setReg r v).d = if r = .d then v else s.d := by cases r <;> rfl
@[simp] theorem State.setReg_e (s : State) (r : Reg) (v : Byte) : (s.setReg r v).e = if r = .e then v else s.e := by cases r <;> rfl
@[simp] theorem State.setReg_h (s : State) (r : Reg) (v : Byte) : (s.setReg r v).h = if r = .h then v else s.h := by cases r <;> rfl
@[simp] theorem State.setReg_l (s : State) (r : Reg) (v : Byte) : (s.setReg r v).l = if r = .l then v else s.l := by cases r <;> rfl
@[simp] theorem State.setReg_sp (s : State) (r : Reg) (v : Byte) : (s.setReg r v).sp = s.sp := by cases r <;> rfl
@[simp] theorem State.setReg_pc (s : State) (r : Reg) (v : Byte) : (s.setReg r v).pc = s.pc := by cases r <;> rfl
@[simp] theorem State.setReg_ime (s : State) (r : Reg) (v : Byte) : (s.setReg r v).ime = s.ime := by cases r <;> rfl
@[simp] theorem State.setReg_enableRequested (s : State) (r : Reg) (v : Byte) : (s.setReg r v).enableRequested = s.enableRequested := by cases r <;> rfl
@[simp] theorem State.setReg_disableRequested (s : State) (r : Reg) (v : Byte) : (s.setReg r v).disableRequested = s.disableRequested := by cases r <;> rfl
@[simp] theorem State.setReg_instrCount (s : State) (r : Reg) (v : Byte) : (s.setReg r v).instrCount = s.instrCount := by cases r <;> rfl
@[simp] theorem State.setReg_tickCount (s : State) (r : Reg) (v : Byte) : (s.setReg r v).tickCount = s.tickCount := by cases r <;> rfl
@[simp] theorem State.setReg_mem (s : State) (r : Reg) (v : Byte) : (s.setReg r v).mem = s.mem := by cases r <;> rfl
@[simp] theorem State.setReg_joyReq (s : State) (r : Reg) (v : Byte) : (s.setReg r v).joyReq = s.joyReq := by cases r <;> rfl
@[simp] theorem State.setReg_params (s : State) (r : Reg) (v : Byte) : (s.setReg r v).params = s.params := by cases r <;> rfl

/-! ### `setPair` -/

@[simp] theorem State.setPair_a (s : State) (p : Pair) (v : Word) : (s.setPair p v).a = s.a := by cases p <;> rfl
@[simp] theorem State.setPair_f (s : State) (p : Pair) (v : Word) : (s.setPair p v).f = s.f := by cases p <;> rfl
@[simp] theorem State.setPair_b (s : State) (p : Pair) (v : Word) : (s.setPair p v).b = if p = .bc then hiByte v else s.b := by cases p <;> rfl
@[simp] theorem State.setPair_c (s : State) (p : Pair) (v : Word) : (s.setPair p v).c = if p = .bc then loByte v else s.c := by cases p <;> rfl
@[simp] theorem State.setPair_d (s : State) (p : Pair) (v : Word) : (s.setPair p v).d = if p = .de then hiByte v else s.d := by cases p <;> rfl
@[simp] theorem State.setPair_e (s : State) (p : Pair) (v : Word) : (s.setPair p v).e = if p = .de then loByte v else s.e := by cases p <;> rfl
@[simp] theorem State.setPair_h (s : State) (p : Pair) (v : Word) : (s.setPair p v).h = if p = .hl then hiByte v else s.h := by cases p <;> rfl
@[simp] theorem State.setPair_l (s : State) (p : Pair) (v : Word) : (s.setPair p v).l = if p = .hl then loByte v else s.l := by cases p <;> rfl
@[simp] theorem State.setPair_sp (s : State) (p : Pair) (v : Word) : (s.setPair p v).sp = if p = .sp then v else s.sp := by cases p <;> rfl
@[simp] theorem State.setPair_pc (s : State) (p : Pair) (v : Word) : (s.setPair p v).pc = s.pc := by cases p <;> rfl
@[simp] theorem State.setPair_ime (s : State) (p : Pair) (v : Word) : (s.setPair p v).ime = s.ime := by cases p <;> rfl
@[simp] theorem State.setPair_enableRequested (s : State) (p : Pair) (v : Word) : (s.setPair p v).enableRequested = s.enableRequested := by cases p <;> rfl
@[simp] theorem State.setPair_disableRequested (s : State) (p : Pair) (v : Word) : (s.setPair p v).disableRequested = s.disableRequested := by cases p <;> rfl
@[simp] theorem State.setPair_instrCount (s : State) (p : Pair) (v : Word) : (s.setPair p v).instrCount = s.instrCount := by cases p <;> rfl
@[simp] theorem State.setPair_tickCount (s : State) (p : Pair) (v : Word) : (s.setPair p v).tickCount = s.tickCount := by cases p <;> rfl
@[simp] theorem State.setPair_mem (s : State) (p : Pair) (v : Word) : (s.setPair p v).mem = s.mem := by cases p <;> rfl
@[simp] theorem State.setPair_joyReq (s : State) (p : Pair) (v : Word) : (s.setPair p v).joyReq = s.joyReq := by cases p <;> rfl
@[simp] theorem State.setPair_params (s : State) (p : Pair) (v : Word) : (s.setPair p v).params = s.params := by cases p <;> rfl

/-! ### `setStackPair` -/

@[simp] theorem State.setStackPair_a (s : State) (p : StackPair) (v : Word) : (s.setStackPair p v).a = if p = .af then hiByte v else s.a := by cases p <;> rfl
@[simp] theorem State.setStackPair_f (s : State) (p : StackPair) (v : Word) : (s.setStackPair p v).f = if p = .af then loByte v &&& 0xF0 else s.f := by cases p <;> rfl
@[simp] theorem State.setStackPair_b (s : State) (p : StackPair) (v : Word) : (s.setStackPair p v).b = if p = .bc then hiByte v else s.b := by cases p <;> rfl
@[simp] theorem State.setStackPair_c (s : State) (p : StackPair) (v : Word) : (s.setStackPair p v).c = if p = .bc then loByte v else s.c := by cases p <;> rfl
@[simp] theorem State.setStackPair_d (s : State) (p : StackPair) (v : Word) : (s.setStackPair p v).d = if p = .de then hiByte v else s.d := by cases p <;> rfl
@[simp] theorem State.setStackPair_e (s : State) (p : StackPair) (v : Word) : (s.setStackPair p v).e = if p = .de then loByte v else s.e := by cases p <;> rfl
@[simp] theorem State.setStackPair_h (s : State) (p : StackPair) (v : Word) : (s.setStackPair p v).h = if p = .hl then hiByte v else s.h := by cases p <;> rfl
@[simp] theorem State.setStackPair_l (s : State) (p : StackPair) (v : Word) : (s.setStackPair p v).l = if p = .hl then loByte v else s.l := by cases p <;> rfl
@[simp] theorem State.setStackPair_sp (s : State) (p : StackPair) (v : Word) : (s.setStackPair p v).sp = s.sp := by cases p <;> rfl
@[simp] theorem State.setStackPair_pc (s : State) (p : StackPair) (v : Word) : (s.setStackPair p v).pc = s.pc := by cases p <;> rfl
@[simp] theorem State.setStackPair_ime (s : State) (p : StackPair) (v : Word) : (s.setStackPair p v).ime = s.ime := by cases p <;> rfl
@[simp] theorem State.setStackPair_enableRequested (s : State) (p : StackPair) (v : Word) : (s.setStackPair p v).enableRequested = s.enableRequested := by cases p <;> rfl
@[simp] theorem State.setStackPair_disableRequested (s : State) (p : StackPair) (v : Word) : (s.setStackPair p v).disableRequested = s.disableRequested := by cases p <;> rfl
@[simp] theorem State.setStackPair_instrCount (s : State) (p : StackPair) (v : Word) : (s.setStackPair p v).instrCount = s.instrCount := by cases p <;> rfl
@[simp] theorem State.setStackPair_tickCount (s : State) (p : StackPair) (v : Word) : (s.setStackPair p v).tickCount = s.tickCount := by cases p <;> rfl
@[simp] theorem State.setStackPair_mem (s : State) (p : StackPair) (v : Word) : (s.setStackPair p v).mem = s.mem := by cases p <;> rfl
@[simp] theorem State.setStackPair_joyReq (s : State) (p : StackPair) (v : Word) : (s.setStackPair p v).joyReq = s.joyReq := by cases p <;> rfl
@[simp] theorem State.setStackPair_params (s : State) (p : StackPair) (v : Word) : (s.setStackPair p v).params = s.params := by cases p <;> rfl

/-! ### `setSlot` -/

@[simp] theorem State.setSlot_a (s : State) (z : Slot) (v : Byte) : (s.setSlot z v).a = if z = .a then v else s.a := by cases z <;> rfl
@[simp] theorem State.setSlot_f (s : State) (z : Slot) (v : Byte) : (s.setSlot z v).f = s.f := by cases z <;> rfl
@[simp] theorem State.setSlot_b (s : State) (z : Slot) (v : Byte) : (s.setSlot z v).b = if z = .b then v else s.b := by cases z <;> rfl
@[simp] theorem State.setSlot_c (s : State) (z : Slot) (v : Byte) : (s.setSlot z v).c = if z = .c then v else s.c := by cases z <;> rfl
@[simp] theorem State.setSlot_d (s : State) (z : Slot) (v : Byte) : (s.setSlot z v).d = if z = .d then v else s.d := by cases z <;> rfl
@[simp] theorem State.setSlot_e (s : State) (z : Slot) (v : Byte) : (s.setSlot z v).e = if z = .e then v else s.e := by cases z <;> rfl
@[simp] theorem State.setSlot_h (s : State) (z : Slot) (v : Byte) : (s.setSlot z v).h = if z = .h then v else s.h := by cases z <;> rfl
@[simp] theorem State.setSlot_l (s : State) (z : Slot) (v : Byte) : (s.setSlot z v).l = if z = .l then v else s.l := by cases z <;> rfl
@[simp] theorem State.setSlot_sp (s : State) (z : Slot) (v : Byte) : (s.setSlot z v).sp = s.sp := by cases z <;> rfl
@[simp] theorem State.setSlot_pc (s : State) (z : Slot) (v : Byte) : (s.setSlot z v).pc = s.pc := by cases z <;> rfl
@[simp] theorem State.setSlot_ime (s : State) (z : Slot) (v : Byte) : (s.setSlot z v).ime = s.ime := by cases z <;> rfl
@[simp] theorem State.setSlot_enableRequested (s : State) (z : Slot) (v : Byte) : (s.setSlot z v).enableRequested = s.enableRequested := by cases z <;> rfl
@[simp] theorem State.setSlot_disableRequested (s : State) (z : Slot) (v : Byte) : (s.setSlot z v).disableRequested = s.disableRequested := by cases z <;> rfl
@[simp] theorem State.setSlot_instrCount (s : State) (z : Slot) (v : Byte) : (s.setSlot z v).instrCount = s.instrCount := by cases z <;> rfl
@[simp] theorem State.setSlot_tickCount (s : State) (z : Slot) (v : Byte) : (s.setSlot z v).tickCount = s.tickCount := by cases z <;> rfl
@[simp] theorem State.setSlot_mem (s : State) (z : Slot) (v : Byte) : (s.setSlot z v).mem = if z = .indHl then s.mem.put (cellOf s.params s.hl) v else s.mem := by cases z <;> rfl
@[simp] theorem State.setSlot_joyReq (s : State) (z : Slot) (v : Byte) : (s.setSlot z v).joyReq = s.joyReq := by cases z <;> rfl
@[simp] theorem State.setSlot_params (s : State) (z : Slot) (v : Byte) : (s.setSlot z v).params = s.params := by cases z <;> rfl

/-! ### Registers through `getReg` -/

@[simp] theorem State.getReg_advance (s : State) (len : Nat) (r : Reg) : (s.advance len).getReg r = s.getReg r := by cases r <;> rfl
@[simp] theorem State.getReg_jump (s : State) (target : Word) (r : Reg) : (s.jump target).getReg r = s.getReg r := by cases r <;> rfl
@[simp] theorem State.getReg_drop16 (s : State) (r : Reg) : (s.drop16).getReg r = s.getReg r := by cases r <;> rfl
@[simp] theorem State.getReg_count (s : State) (op : Byte) (r : Reg) : (s.count op).getReg r = s.getReg r := by cases r <;> rfl
@[simp] theorem State.getReg_setF (s : State) (v : Byte) (r : Reg) : (s.setF v).getReg r = s.getReg r := by cases r <;> rfl
@[simp] theorem State.getReg_withFlags (s : State) (z n h c : Bool) (r : Reg) : (s.withFlags z n h c).getReg r = s.getReg r := by cases r <;> rfl
@[simp] theorem State.getReg_setFlag (s : State) (k : Flag) (v : Bool) (r : Reg) : (s.setFlag k v).getReg r = s.getReg r := by cases r <;> rfl
@[simp] theorem State.getReg_write8 (s : State) (a : Word) (v : Byte) (r : Reg) : (s.write8 a v).getReg r = s.getReg r := by cases r <;> rfl
@[simp] theorem State.getReg_write16 (s : State) (a v : Word) (r : Reg) : (s.write16 a v).getReg r = s.getReg r := by cases r <;> rfl
@[simp] theorem State.getReg_push16 (s : State) (v : Word) (r : Reg) : (s.push16 v).getReg r = s.getReg r := by cases r <;> rfl
@[simp] theorem State.getReg_setReg (s : State) (r q : Reg) (v : Byte) : (s.setReg r v).getReg q = if q = r then v else s.getReg q := by cases r <;> cases q <;> rfl


end Sys2Proof.Machine
end

