-- ==== Sys2Proof/Laws/Memory.lean ====
section
/-! SUPPORT. The memory list: a read after a write, the canonical form kept by every memory operation, and every cell's number a
cell that exists. -/

namespace Sys2Proof.Machine

@[simp] theorem Memory.get_nil (k : Nat) : Memory.get [] k = Memory.unlisted := rfl

@[simp] theorem Memory.get_cons (x : Host.Cell) (m : Memory) (k : Nat) :
    Memory.get (x :: m) k = if x.1 = k then x.2 else Memory.get m k := rfl

theorem Memory.get_erase (m : Memory) (j k : Nat) :
    Memory.get (Memory.erase m j) k = if k = j then Memory.unlisted else Memory.get m k := by
  induction m with
  | nil => simp [Memory.erase]
  | cons x m ih =>
    simp only [Memory.erase] at ih
    by_cases hx : x.1 = j
    · simp only [Memory.erase, List.filter_cons, hx, bne_self_eq_false, Bool.false_eq_true, if_false, ih,
        Memory.get_cons]
      split
      · rfl
      · next h => rw [if_neg (fun e => h e.symm)]
    · simp only [Memory.erase, List.filter_cons, bne_iff_ne, ne_eq, hx, not_false_eq_true, if_true, Memory.get_cons, ih]
      by_cases hk : x.1 = k
      · rw [if_pos hk, if_neg (fun e => hx (hk.trans e)), if_pos hk]
      · simp only [if_neg hk]

theorem Memory.get_insert (m : Memory) (j k : Nat) (v : Byte)
    (hn : ∀ x ∈ m, x.1 ≠ j) : Memory.get (Memory.insert m j v) k = if k = j then v else Memory.get m k := by
  induction m with
  | nil =>
    simp only [Memory.insert, Memory.get_cons, Memory.get_nil, eq_comm]
  | cons x m ih =>
    simp only [Memory.insert]
    split
    · simp only [Memory.get_cons, eq_comm (a := j)]
    · simp only [Memory.get_cons, ih (fun y hy => hn y (List.mem_cons_of_mem _ hy))]
      by_cases hk : x.1 = k
      · rw [if_pos hk, if_neg (fun e => hn x List.mem_cons_self (hk.trans e)), if_pos hk]
      · simp only [if_neg hk]

theorem Memory.not_mem_erase (m : Memory) (j : Nat) : ∀ x ∈ Memory.erase m j, x.1 ≠ j := by
  intro x hx
  simpa using (List.mem_filter.mp hx).2

/-- A read after a write: the byte written in that cell, the old byte in every other, whatever list it is. -/
theorem Memory.get_put (m : Memory) (j k : Nat) (v : Byte) :
    Memory.get (Memory.put m j v) k = if k = j then v else Memory.get m k := by
  unfold Memory.put
  split
  · next hv => rw [Memory.get_erase, hv]
  · rw [Memory.get_insert _ _ _ _ (Memory.not_mem_erase m j), Memory.get_erase]
    split
    · rfl
    · rfl

theorem Memory.mem_insert {m : Memory} {j : Nat} {v : Byte} {x : Host.Cell} (hx : x ∈ Memory.insert m j v) :
    x = (j, v) ∨ x ∈ m := by
  induction m with
  | nil => simpa [Memory.insert] using hx
  | cons y m ih =>
    simp only [Memory.insert] at hx
    split at hx
    · simpa using hx
    · rcases List.mem_cons.mp hx with rfl | h
      · exact .inr List.mem_cons_self
      · exact (ih h).imp id (List.mem_cons_of_mem _)

theorem Memory.wf_nil : Memory.wf [] := ⟨List.Pairwise.nil, by simp⟩

theorem Memory.wf_erase {m : Memory} (h : m.wf) (j : Nat) : (Memory.erase m j).wf :=
  ⟨h.1.filter _, fun x hx => h.2 x (List.mem_filter.mp hx).1⟩

theorem Memory.wf_insert {m : Memory} (h : m.wf) {j : Nat} {v : Byte} (hj : Memory.IsCell j)
    (hv : v ≠ Memory.unlisted) (hn : ∀ x ∈ m, x.1 ≠ j) : (Memory.insert m j v).wf := by
  refine ⟨?_, fun x hx => ?_⟩
  · have hs := h.1
    clear h
    induction m with
    | nil => exact List.pairwise_singleton _ _
    | cons y m ih =>
      rw [List.pairwise_cons] at hs
      simp only [Memory.insert]
      split
      · next hlt =>
        refine List.pairwise_cons.mpr ⟨fun z hz => ?_, List.pairwise_cons.mpr hs⟩
        rcases List.mem_cons.mp hz with rfl | hz
        · exact hlt
        · exact Nat.lt_trans hlt (hs.1 z hz)
      · next hlt =>
        refine List.pairwise_cons.mpr ⟨fun z hz => ?_, ih (fun x hx => hn x (List.mem_cons_of_mem _ hx)) hs.2⟩
        rcases Memory.mem_insert hz with rfl | hz
        · exact Nat.lt_of_le_of_ne (Nat.le_of_not_lt hlt) (hn y List.mem_cons_self)
        · exact hs.1 z hz
  · rcases Memory.mem_insert hx with rfl | hx
    · exact ⟨hj, hv⟩
    · exact h.2 x hx

/-- Every write to a cell that exists keeps the canonical form. -/
theorem Memory.wf_put {m : Memory} (h : m.wf) {j : Nat} (hj : Memory.IsCell j) (v : Byte) : (Memory.put m j v).wf := by
  unfold Memory.put
  split
  · exact Memory.wf_erase h j
  · next hv => exact Memory.wf_insert (Memory.wf_erase h j) hj hv (Memory.not_mem_erase m j)

/-- Bytes laid out from a cell on give a canonical memory, if all their cells are below the echo window. -/
theorem Memory.wf_ofImage (k : Nat) (vs : List Byte) (h : k + vs.length ≤ 0xE000) :
    (Memory.ofImage k vs).wf ∧ ∀ x ∈ Memory.ofImage k vs, k ≤ x.1 := by
  induction vs generalizing k with
  | nil => exact ⟨Memory.wf_nil, by simp [Memory.ofImage]⟩
  | cons v vs ih =>
    rw [List.length_cons] at h
    obtain ⟨hw, hk⟩ := ih (k + 1) (by omega)
    simp only [Memory.ofImage]
    split
    · exact ⟨hw, fun x hx => by have := hk x hx; omega⟩
    · next hv =>
      refine ⟨⟨List.pairwise_cons.mpr ⟨fun x hx => by have := hk x hx; simpa using this, hw.1⟩, fun x hx => ?_⟩, fun x hx => ?_⟩
      · rcases List.mem_cons.mp hx with rfl | hx
        · exact ⟨.inl (by simp only; omega), hv⟩
        · exact hw.2 x hx
      · rcases List.mem_cons.mp hx with rfl | hx
        · exact Nat.le_refl _
        · have := hk x hx; omega

theorem Memory.get_ofImage (k : Nat) (vs : List Byte) (j : Nat) :
    Memory.get (Memory.ofImage k vs) j = if k ≤ j then vs.getD (j - k) Memory.unlisted else Memory.unlisted := by
  induction vs generalizing k with
  | nil => simp [Memory.ofImage]
  | cons v vs ih =>
    have step : (if k + 1 ≤ j then vs.getD (j - (k + 1)) Memory.unlisted else Memory.unlisted) =
        if k = j then Memory.unlisted
        else if k ≤ j then (v :: vs).getD (j - k) Memory.unlisted else Memory.unlisted := by
      by_cases h1 : k + 1 ≤ j
      · obtain ⟨n, hn⟩ : ∃ n, j - k = n + 1 := ⟨j - k - 1, by omega⟩
        rw [if_pos h1, if_neg (by omega), if_pos (by omega), hn, List.getD_cons_succ]
        congr 1
        omega
      · rw [if_neg h1]
        by_cases h2 : k = j
        · rw [if_pos h2]
        · rw [if_neg h2, if_neg (by omega)]
    simp only [Memory.ofImage]
    split
    · next hv =>
      rw [ih, step]
      by_cases h : k = j
      · subst h; simp [hv]
      · rw [if_neg h]
    · rw [Memory.get_cons, ih, step]
      by_cases h : k = j
      · subst h; simp
      · simp [h]

end Sys2Proof.Machine
end

