-- ==== Sys2Proof/Laws/Access.lean ====
section
/-! SUPPORT. The address-space decoder and the access primitives: what a read gives after a write, and what no write touches. -/

namespace Sys2Proof.Machine

/-- The echo region is the window 0xE000 to 0xEFFF. -/
theorem regionOf_eq_echo (a : Word) : regionOf a = .echo ↔ 0xE000 ≤ a.toNat ∧ a.toNat < 0xF000 := by
  unfold regionOf
  split_ifs <;> simp <;> omega

/-- An echo address names a cartridge byte. -/
theorem cellOf_echo (p : Params) (a : Word) (h : 0xE000 ≤ a.toNat) (h' : a.toNat < 0xF000) :
    cellOf p a = (p.echoBase.toNat + (a.toNat - 0xE000)) % 0x8000 := by
  unfold cellOf
  rw [(regionOf_eq_echo a).mpr ⟨h, h'⟩]

/-- An address outside the echo window names its own cell. -/
theorem cellOf_of_not_echo (p : Params) (a : Word) (h : a.toNat < 0xE000 ∨ 0xF000 ≤ a.toNat) : cellOf p a = a.toNat := by
  have hr : regionOf a ≠ .echo := fun e => by have := (regionOf_eq_echo a).mp e; omega
  unfold cellOf
  split
  · next e => exact absurd e hr
  · rfl

/-- Every address names a cell that exists. -/
theorem cellOf_isCell (p : Params) (a : Word) : Memory.IsCell (cellOf p a) := by
  have ha := a.isLt
  by_cases he : 0xE000 ≤ a.toNat ∧ a.toNat < 0xF000
  · rw [cellOf_echo p a he.1 he.2]
    exact .inl (Nat.lt_trans (Nat.mod_lt _ (by decide)) (by decide))
  · rw [cellOf_of_not_echo p a (by omega)]
    unfold Memory.IsCell
    omega

theorem State.read8_def (s : State) (a : Word) :
    s.read8 a = if a = scanlineAddr then scanlineValue else s.mem.get (cellOf s.params a) := rfl

/-- A read depends on memory and the parameters alone. -/
theorem State.read8_congr {s t : State} (hm : t.mem = s.mem) (hp : t.params = s.params) (a : Word) :
    t.read8 a = s.read8 a := by
  simp only [State.read8_def, hm, hp]

/-- A read after a write: 0x90 at the scanline stub; the byte written at every address of the same cell; else the old byte. -/
theorem State.read8_write8 (s : State) (a b : Word) (v : Byte) :
    (s.write8 a v).read8 b =
      if b = scanlineAddr then scanlineValue
      else if cellOf s.params b = cellOf s.params a then v else s.read8 b := by
  simp only [State.read8_def, State.write8_mem, State.write8_params, Memory.get_put]
  split
  · rfl
  · split <;> rfl

/-- A write leaves every address of another cell alone. -/
theorem State.read8_write8_of_ne (s : State) {a b : Word} (v : Byte) (h : cellOf s.params b ≠ cellOf s.params a) :
    (s.write8 a v).read8 b = s.read8 b := by
  rw [State.read8_write8, if_neg h]
  split
  · next hb => simp [State.read8_def, hb]
  · rfl

/-- Reading back the address just written. -/
theorem State.read8_write8_self (s : State) (a : Word) (v : Byte) : (s.write8 a v).read8 a = seen a v := by
  rw [State.read8_write8, if_pos rfl]
  rfl

/-- Two addresses in a row never name one cell. -/
theorem cellOf_succ_ne (p : Params) (a : Word) : cellOf p (a + 1) ≠ cellOf p a := by
  have ha := a.isLt
  have h1 : (a + 1).toNat = (a.toNat + 1) % 0x10000 := by simp [BitVec.toNat_add]
  by_cases he : 0xE000 ≤ a.toNat ∧ a.toNat < 0xF000
  · rw [cellOf_echo p a he.1 he.2]
    by_cases he' : a.toNat + 1 < 0xF000
    · rw [cellOf_echo p (a + 1) (by omega) (by omega), h1]
      omega
    · rw [cellOf_of_not_echo p (a + 1) (by omega), h1]
      omega
  · rw [cellOf_of_not_echo p a (by omega)]
    by_cases he' : 0xE000 ≤ (a + 1).toNat ∧ (a + 1).toNat < 0xF000
    · rw [cellOf_echo p (a + 1) he'.1 he'.2]
      omega
    · rw [cellOf_of_not_echo p (a + 1) (by omega), h1]
      omega

/-- A 16-bit write leaves every address of two other cells alone. -/
theorem State.read8_write16_of_ne (s : State) {a b : Word} (v : Word) (h0 : cellOf s.params b ≠ cellOf s.params a)
    (h1 : cellOf s.params b ≠ cellOf s.params (a + 1)) : (s.write16 a v).read8 b = s.read8 b := by
  unfold State.write16
  rw [State.read8_write8_of_ne _ _ (by simpa using h1), State.read8_write8_of_ne _ _ h0]

/-- The low byte of a 16-bit write, read back. -/
theorem State.read8_write16_lo (s : State) (a v : Word) : (s.write16 a v).read8 a = seen a (loByte v) := by
  unfold State.write16
  rw [State.read8_write8_of_ne _ _ (by simpa using (cellOf_succ_ne s.params a).symm), State.read8_write8_self]

/-- The high byte of a 16-bit write, read back. -/
theorem State.read8_write16_hi (s : State) (a v : Word) : (s.write16 a v).read8 (a + 1) = seen (a + 1) (hiByte v) := by
  unfold State.write16
  rw [State.read8_write8_self]

/-! ### The canonical form is kept -/

theorem State.wf_write8 {s : State} (h : s.mem.wf) (a : Word) (v : Byte) : (s.write8 a v).mem.wf := by
  rw [State.write8_mem]
  exact Memory.wf_put h (cellOf_isCell _ _) v

theorem State.wf_write16 {s : State} (h : s.mem.wf) (a v : Word) : (s.write16 a v).mem.wf := by
  unfold State.write16
  exact State.wf_write8 (State.wf_write8 h _ _) _ _

theorem State.wf_push16 {s : State} (h : s.mem.wf) (v : Word) : (s.push16 v).mem.wf := by
  unfold State.push16
  exact State.wf_write16 (s := { s with sp := s.sp - 2 }) h _ _

theorem State.wf_setSlot {s : State} (h : s.mem.wf) (z : Slot) (v : Byte) : (s.setSlot z v).mem.wf := by
  cases z <;> first | exact h | exact State.wf_write8 h _ _

theorem State.wf_enterInterrupt {s : State} (h : s.mem.wf) (k : IrqClass) : (s.enterInterrupt k).mem.wf := by
  unfold State.enterInterrupt
  rw [State.jump_mem]
  exact State.wf_push16 (State.wf_write8 (s := { s with ime := false }) h _ _) _

theorem State.wf_placeBytes (vs : List Byte) : ∀ {s : State} (_ : s.mem.wf) (a : Word), (s.placeBytes a vs).mem.wf := by
  induction vs with
  | nil => intro s h a; exact h
  | cons v vs ih => intro s h a; exact ih (State.wf_write8 h a v) (a + 1)

/-- Reset's memory is canonical, for every CART and BOOT. -/
theorem State.wf_resetWith (r : ResetRegs) (cart : List Byte) (boot : Vector Byte 256) (joy : List Bool) (p : Params) :
    (State.resetWith r cart boot joy p).mem.wf := by
  refine (Memory.wf_ofImage 0 (resetImage cart boot) ?_).1
  simp only [resetImage, List.length_append, Vector.length_toList, List.length_drop, List.length_take]
  omega

end Sys2Proof.Machine
end

