-- ==== Sys2Proof/Laws/Flags.lean ====
section
/-! SUPPORT. Flag writes: what each flag is after one, and that F's low nibble is zero after every write of F. -/

namespace Sys2Proof.Machine

@[simp] theorem packFlags_masked (z n h c : Bool) : packFlags z n h c &&& 0xF0 = packFlags z n h c := by
  cases z <;> cases n <;> cases h <;> cases c <;> rfl

theorem packFlags_low (z n h c : Bool) : packFlags z n h c &&& 0x0F = 0 := by
  cases z <;> cases n <;> cases h <;> cases c <;> rfl

theorem packFlags_bits (z n h c : Bool) :
    (packFlags z n h c).getLsbD 7 = z ∧ (packFlags z n h c).getLsbD 6 = n ∧
    (packFlags z n h c).getLsbD 5 = h ∧ (packFlags z n h c).getLsbD 4 = c := by
  revert z n h c
  decide

@[simp] theorem State.flag_z_withFlags (s : State) (z n h c : Bool) : (s.withFlags z n h c).flag .z = z := by
  simp only [State.flag, State.withFlags_f, packFlags_masked]
  exact (packFlags_bits z n h c).1

@[simp] theorem State.flag_n_withFlags (s : State) (z n h c : Bool) : (s.withFlags z n h c).flag .n = n := by
  simp only [State.flag, State.withFlags_f, packFlags_masked]
  exact (packFlags_bits z n h c).2.1

@[simp] theorem State.flag_h_withFlags (s : State) (z n h c : Bool) : (s.withFlags z n h c).flag .h = h := by
  simp only [State.flag, State.withFlags_f, packFlags_masked]
  exact (packFlags_bits z n h c).2.2.1

@[simp] theorem State.flag_c_withFlags (s : State) (z n h c : Bool) : (s.withFlags z n h c).flag .c = c := by
  simp only [State.flag, State.withFlags_f, packFlags_masked]
  exact (packFlags_bits z n h c).2.2.2

/-- A flag depends on F alone. -/
theorem State.flag_congr {s t : State} (h : t.f = s.f) (k : Flag) : t.flag k = s.flag k := by
  simp only [State.flag, h]

theorem setFlagBits_get (f : Byte) (j k : Flag) (v : Bool) :
    (((if v then setBit f (flagBit k) else clearBit f (flagBit k)) &&& 0xF0).getLsbD (flagBit j)) =
      if j = k then v else f.getLsbD (flagBit j) := by
  revert f
  cases j <;> cases k <;> cases v <;> decide +kernel

/-- Setting one flag sets that bit and leaves the other three as they were (10_state.md R14). -/
@[simp] theorem State.flag_setFlag (s : State) (k j : Flag) (v : Bool) :
    (s.setFlag k v).flag j = if j = k then v else s.flag j := by
  simp only [State.flag, State.setFlag_f]
  exact setFlagBits_get s.f j k v

theorem mask_low (v : Byte) : (v &&& 0xF0) &&& 0x0F = 0 := by
  revert v
  decide +kernel

/-- Every write of F leaves its low nibble zero (10_state.md R13). -/
theorem State.setF_low (s : State) (v : Byte) : FlagsLowZero (s.setF v) := mask_low v

theorem State.withFlags_low (s : State) (z n h c : Bool) : FlagsLowZero (s.withFlags z n h c) := mask_low _

theorem State.setFlag_low (s : State) (k : Flag) (v : Bool) : FlagsLowZero (s.setFlag k v) := mask_low _

end Sys2Proof.Machine
end

