-- ==== Sys2Proof/Laws/Forms.lean ====
section
/-! SUPPORT. The 512 meanings as instances of a few dozen forms: `exec_eq_run` says once what every instruction can do, so that a
proof about all instructions is a case split over `Form` and not over `Instr`; the `exec_…Of` lemmas say the same of the families
of Sys2Proof/Decode.lean. -/

namespace Sys2Proof.Machine

/-- The forms of instruction, with their operands. -/
inductive Form where
  | ldRegReg (dst z : Reg) | ldRegMem (dst : Reg) | ldMemReg (z : Reg) | ldImm (z : Slot) (v : Byte)
  | alu (op : AluOp) (z : Slot) | aluImm (op : AluOp) (v : Byte) | inc (z : Slot) | dec (z : Slot)
  | ldPair (p : Pair) (v : Word) | addHl (p : Pair) | incPair (p : Pair) | decPair (p : Pair)
  | rotA (op : RotOp) | rot (op : RotOp) (z : Slot) | bit (k : Nat) (z : Slot) | res (k : Nat) (z : Slot) | set (k : Nat) (z : Slot)
  | jpCc (cc : Cond) (w : Word) | jrCc (cc : Cond) (v : Byte) | callCc (cc : Cond) (w : Word) | retCc (cc : Cond)
  | rst (w : Word) | push (p : StackPair) | pop (p : StackPair) | stop (op : Byte) | unbound (op : Byte)
  | nop
  | ldIndBcA
  | ldIndA16Sp (a16 : Word)
  | ldAIndBc
  | ldIndDeA
  | jrE8 (e8 : Byte)
  | ldAIndDe
  | ldIndHlIncA
  | daa
  | ldAIndHlInc
  | cplAcc
  | ldIndHlDecA
  | scf
  | ldAIndHlDec
  | ccf
  | jpA16 (a16 : Word)
  | ret
  | prefixCb (xop : Byte)
  | callA16 (a16 : Word)
  | reti
  | ldhIndA8A (a8 : Byte)
  | ldIndCA
  | addSpE8 (e8 : Byte)
  | jpHl
  | ldIndA16A (a16 : Word)
  | ldhAIndA8 (a8 : Byte)
  | ldAIndC
  | di
  | ldHlSpE8 (e8 : Byte)
  | ldSpHl
  | ldAIndA16 (a16 : Word)
  | ei
deriving DecidableEq, Repr

/-- The form of each instruction. -/
def formOf : Instr → Form
  | .nop => .nop
  | .ldBcD16 d16 => .ldPair .bc d16
  | .ldIndBcA => .ldIndBcA
  | .incBc => .incPair .bc
  | .incB => .inc .b
  | .decB => .dec .b
  | .ldBD8 d8 => .ldImm .b d8
  | .rlcAcc => .rotA .rlc
  | .ldIndA16Sp a16 => .ldIndA16Sp a16
  | .addHlBc => .addHl .bc
  | .ldAIndBc => .ldAIndBc
  | .decBc => .decPair .bc
  | .incC => .inc .c
  | .decC => .dec .c
  | .ldCD8 d8 => .ldImm .c d8
  | .rrcAcc => .rotA .rrc
  | .stop => .stop 0x10
  | .ldDeD16 d16 => .ldPair .de d16
  | .ldIndDeA => .ldIndDeA
  | .incDe => .incPair .de
  | .incD => .inc .d
  | .decD => .dec .d
  | .ldDD8 d8 => .ldImm .d d8
  | .rlAcc => .rotA .rl
  | .jrE8 e8 => .jrE8 e8
  | .addHlDe => .addHl .de
  | .ldAIndDe => .ldAIndDe
  | .decDe => .decPair .de
  | .incE => .inc .e
  | .decE => .dec .e
  | .ldED8 d8 => .ldImm .e d8
  | .rrAcc => .rotA .rr
  | .jrNzE8 e8 => .jrCc .nz e8
  | .ldHlD16 d16 => .ldPair .hl d16
  | .ldIndHlIncA => .ldIndHlIncA
  | .incHl => .incPair .hl
  | .incH => .inc .h
  | .decH => .dec .h
  | .ldHD8 d8 => .ldImm .h d8
  | .daa => .daa
  | .jrZE8 e8 => .jrCc .z e8
  | .addHlHl => .addHl .hl
  | .ldAIndHlInc => .ldAIndHlInc
  | .decHl => .decPair .hl
  | .incL => .inc .l
  | .decL => .dec .l
  | .ldLD8 d8 => .ldImm .l d8
  | .cplAcc => .cplAcc
  | .jrNcE8 e8 => .jrCc .nc e8
  | .ldSpD16 d16 => .ldPair .sp d16
  | .ldIndHlDecA => .ldIndHlDecA
  | .incSp => .incPair .sp
  | .incIndHl => .inc .indHl
  | .decIndHl => .dec .indHl
  | .ldIndHlD8 d8 => .ldImm .indHl d8
  | .scf => .scf
  | .jrCE8 e8 => .jrCc .c e8
  | .addHlSp => .addHl .sp
  | .ldAIndHlDec => .ldAIndHlDec
  | .decSp => .decPair .sp
  | .incA => .inc .a
  | .decA => .dec .a
  | .ldAD8 d8 => .ldImm .a d8
  | .ccf => .ccf
  | .ldBB => .ldRegReg .b .b
  | .ldBC => .ldRegReg .b .c
  | .ldBD => .ldRegReg .b .d
  | .ldBE => .ldRegReg .b .e
  | .ldBH => .ldRegReg .b .h
  | .ldBL => .ldRegReg .b .l
  | .ldBIndHl => .ldRegMem .b
  | .ldBA => .ldRegReg .b .a
  | .ldCB => .ldRegReg .c .b
  | .ldCC => .ldRegReg .c .c
  | .ldCD => .ldRegReg .c .d
  | .ldCE => .ldRegReg .c .e
  | .ldCH => .ldRegReg .c .h
  | .ldCL => .ldRegReg .c .l
  | .ldCIndHl => .ldRegMem .c
  | .ldCA => .ldRegReg .c .a
  | .ldDB => .ldRegReg .d .b
  | .ldDC => .ldRegReg .d .c
  | .ldDD => .ldRegReg .d .d
  | .ldDE => .ldRegReg .d .e
  | .ldDH => .ldRegReg .d .h
  | .ldDL => .ldRegReg .d .l
  | .ldDIndHl => .ldRegMem .d
  | .ldDA => .ldRegReg .d .a
  | .ldEB => .ldRegReg .e .b
  | .ldEC => .ldRegReg .e .c
  | .ldED => .ldRegReg .e .d
  | .ldEE => .ldRegReg .e .e
  | .ldEH => .ldRegReg .e .h
  | .ldEL => .ldRegReg .e .l
  | .ldEIndHl => .ldRegMem .e
  | .ldEA => .ldRegReg .e .a
  | .ldHB => .ldRegReg .h .b
  | .ldHC => .ldRegReg .h .c
  | .ldHD => .ldRegReg .h .d
  | .ldHE => .ldRegReg .h .e
  | .ldHH => .ldRegReg .h .h
  | .ldHL => .ldRegReg .h .l
  | .ldHIndHl => .ldRegMem .h
  | .ldHA => .ldRegReg .h .a
  | .ldLB => .ldRegReg .l .b
  | .ldLC => .ldRegReg .l .c
  | .ldLD => .ldRegReg .l .d
  | .ldLE => .ldRegReg .l .e
  | .ldLH => .ldRegReg .l .h
  | .ldLL => .ldRegReg .l .l
  | .ldLIndHl => .ldRegMem .l
  | .ldLA => .ldRegReg .l .a
  | .ldIndHlB => .ldMemReg .b
  | .ldIndHlC => .ldMemReg .c
  | .ldIndHlD => .ldMemReg .d
  | .ldIndHlE => .ldMemReg .e
  | .ldIndHlH => .ldMemReg .h
  | .ldIndHlL => .ldMemReg .l
  | .halt => .stop 0x76
  | .ldIndHlA => .ldMemReg .a
  | .ldAB => .ldRegReg .a .b
  | .ldAC => .ldRegReg .a .c
  | .ldAD => .ldRegReg .a .d
  | .ldAE => .ldRegReg .a .e
  | .ldAH => .ldRegReg .a .h
  | .ldAL => .ldRegReg .a .l
  | .ldAIndHl => .ldRegMem .a
  | .ldAA => .ldRegReg .a .a
  | .addAB => .alu .add .b
  | .addAC => .alu .add .c
  | .addAD => .alu .add .d
  | .addAE => .alu .add .e
  | .addAH => .alu .add .h
  | .addAL => .alu .add .l
  | .addAIndHl => .alu .add .indHl
  | .addAA => .alu .add .a
  | .adcAB => .alu .adc .b
  | .adcAC => .alu .adc .c
  | .adcAD => .alu .adc .d
  | .adcAE => .alu .adc .e
  | .adcAH => .alu .adc .h
  | .adcAL => .alu .adc .l
  | .adcAIndHl => .alu .adc .indHl
  | .adcAA => .alu .adc .a
  | .subB => .alu .sub .b
  | .subC => .alu .sub .c
  | .subD => .alu .sub .d
  | .subE => .alu .sub .e
  | .subH => .alu .sub .h
  | .subL => .alu .sub .l
  | .subIndHl => .alu .sub .indHl
  | .subA => .alu .sub .a
  | .sbcAB => .alu .sbc .b
  | .sbcAC => .alu .sbc .c
  | .sbcAD => .alu .sbc .d
  | .sbcAE => .alu .sbc .e
  | .sbcAH => .alu .sbc .h
  | .sbcAL => .alu .sbc .l
  | .sbcAIndHl => .alu .sbc .indHl
  | .sbcAA => .alu .sbc .a
  | .andB => .alu .and .b
  | .andC => .alu .and .c
  | .andD => .alu .and .d
  | .andE => .alu .and .e
  | .andH => .alu .and .h
  | .andL => .alu .and .l
  | .andIndHl => .alu .and .indHl
  | .andA => .alu .and .a
  | .xorB => .alu .xor .b
  | .xorC => .alu .xor .c
  | .xorD => .alu .xor .d
  | .xorE => .alu .xor .e
  | .xorH => .alu .xor .h
  | .xorL => .alu .xor .l
  | .xorIndHl => .alu .xor .indHl
  | .xorA => .alu .xor .a
  | .orB => .alu .or .b
  | .orC => .alu .or .c
  | .orD => .alu .or .d
  | .orE => .alu .or .e
  | .orH => .alu .or .h
  | .orL => .alu .or .l
  | .orIndHl => .alu .or .indHl
  | .orA => .alu .or .a
  | .cpB => .alu .cp .b
  | .cpC => .alu .cp .c
  | .cpD => .alu .cp .d
  | .cpE => .alu .cp .e
  | .cpH => .alu .cp .h
  | .cpL => .alu .cp .l
  | .cpIndHl => .alu .cp .indHl
  | .cpA => .alu .cp .a
  | .retNz => .retCc .nz
  | .popBc => .pop .bc
  | .jpNzA16 a16 => .jpCc .nz a16
  | .jpA16 a16 => .jpA16 a16
  | .callNzA16 a16 => .callCc .nz a16
  | .pushBc => .push .bc
  | .addAD8 d8 => .aluImm .add d8
  | .rst00h => .rst 0x0000
  | .retZ => .retCc .z
  | .ret => .ret
  | .jpZA16 a16 => .jpCc .z a16
  | .prefixCb xop => .prefixCb xop
  | .callZA16 a16 => .callCc .z a16
  | .callA16 a16 => .callA16 a16
  | .adcAD8 d8 => .aluImm .adc d8
  | .rst08h => .rst 0x0008
  | .retNc => .retCc .nc
  | .popDe => .pop .de
  | .jpNcA16 a16 => .jpCc .nc a16
  | .undefinedD3 => .unbound 0xD3
  | .callNcA16 a16 => .callCc .nc a16
  | .pushDe => .push .de
  | .subD8 d8 => .aluImm .sub d8
  | .rst10h => .rst 0x0010
  | .retC => .retCc .c
  | .reti => .reti
  | .jpCA16 a16 => .jpCc .c a16
  | .undefinedDb => .unbound 0xDB
  | .callCA16 a16 => .callCc .c a16
  | .undefinedDd => .unbound 0xDD
  | .sbcAD8 d8 => .aluImm .sbc d8
  | .rst18h => .rst 0x0018
  | .ldhIndA8A a8 => .ldhIndA8A a8
  | .popHl => .pop .hl
  | .ldIndCA => .ldIndCA
  | .undefinedE3 => .unbound 0xE3
  | .undefinedE4 => .unbound 0xE4
  | .pushHl => .push .hl
  | .andD8 d8 => .aluImm .and d8
  | .rst20h => .rst 0x0020
  | .addSpE8 e8 => .addSpE8 e8
  | .jpHl => .jpHl
  | .ldIndA16A a16 => .ldIndA16A a16
  | .undefinedEb => .unbound 0xEB
  | .undefinedEc => .unbound 0xEC
  | .undefinedEd => .unbound 0xED
  | .xorD8 d8 => .aluImm .xor d8
  | .rst28h => .rst 0x0028
  | .ldhAIndA8 a8 => .ldhAIndA8 a8
  | .popAf => .pop .af
  | .ldAIndC => .ldAIndC
  | .di => .di
  | .undefinedF4 => .unbound 0xF4
  | .pushAf => .push .af
  | .orD8 d8 => .aluImm .or d8
  | .rst30h => .rst 0x0030
  | .ldHlSpE8 e8 => .ldHlSpE8 e8
  | .ldSpHl => .ldSpHl
  | .ldAIndA16 a16 => .ldAIndA16 a16
  | .ei => .ei
  | .undefinedFc => .unbound 0xFC
  | .undefinedFd => .unbound 0xFD
  | .cpD8 d8 => .aluImm .cp d8
  | .rst38h => .rst 0x0038
  | .rlcB => .rot .rlc .b
  | .rlcC => .rot .rlc .c
  | .rlcD => .rot .rlc .d
  | .rlcE => .rot .rlc .e
  | .rlcH => .rot .rlc .h
  | .rlcL => .rot .rlc .l
  | .rlcIndHl => .rot .rlc .indHl
  | .rlcA => .rot .rlc .a
  | .rrcB => .rot .rrc .b
  | .rrcC => .rot .rrc .c
  | .rrcD => .rot .rrc .d
  | .rrcE => .rot .rrc .e
  | .rrcH => .rot .rrc .h
  | .rrcL => .rot .rrc .l
  | .rrcIndHl => .rot .rrc .indHl
  | .rrcA => .rot .rrc .a
  | .rlB => .rot .rl .b
  | .rlC => .rot .rl .c
  | .rlD => .rot .rl .d
  | .rlE => .rot .rl .e
  | .rlH => .rot .rl .h
  | .rlL => .rot .rl .l
  | .rlIndHl => .rot .rl .indHl
  | .rlA => .rot .rl .a
  | .rrB => .rot .rr .b
  | .rrC => .rot .rr .c
  | .rrD => .rot .rr .d
  | .rrE => .rot .rr .e
  | .rrH => .rot .rr .h
  | .rrL => .rot .rr .l
  | .rrIndHl => .rot .rr .indHl
  | .rrA => .rot .rr .a
  | .slaB => .rot .sla .b
  | .slaC => .rot .sla .c
  | .slaD => .rot .sla .d
  | .slaE => .rot .sla .e
  | .slaH => .rot .sla .h
  | .slaL => .rot .sla .l
  | .slaIndHl => .rot .sla .indHl
  | .slaA => .rot .sla .a
  | .sraB => .rot .sra .b
  | .sraC => .rot .sra .c
  | .sraD => .rot .sra .d
  | .sraE => .rot .sra .e
  | .sraH => .rot .sra .h
  | .sraL => .rot .sra .l
  | .sraIndHl => .rot .sra .indHl
  | .sraA => .rot .sra .a
  | .swapB => .rot .swap .b
  | .swapC => .rot .swap .c
  | .swapD => .rot .swap .d
  | .swapE => .rot .swap .e
  | .swapH => .rot .swap .h
  | .swapL => .rot .swap .l
  | .swapIndHl => .rot .swap .indHl
  | .swapA => .rot .swap .a
  | .srlB => .rot .srl .b
  | .srlC => .rot .srl .c
  | .srlD => .rot .srl .d
  | .srlE => .rot .srl .e
  | .srlH => .rot .srl .h
  | .srlL => .rot .srl .l
  | .srlIndHl => .rot .srl .indHl
  | .srlA => .rot .srl .a
  | .bit0B => .bit 0 .b
  | .bit0C => .bit 0 .c
  | .bit0D => .bit 0 .d
  | .bit0E => .bit 0 .e
  | .bit0H => .bit 0 .h
  | .bit0L => .bit 0 .l
  | .bit0IndHl => .bit 0 .indHl
  | .bit0A => .bit 0 .a
  | .bit1B => .bit 1 .b
  | .bit1C => .bit 1 .c
  | .bit1D => .bit 1 .d
  | .bit1E => .bit 1 .e
  | .bit1H => .bit 1 .h
  | .bit1L => .bit 1 .l
  | .bit1IndHl => .bit 1 .indHl
  | .bit1A => .bit 1 .a
  | .bit2B => .bit 2 .b
  | .bit2C => .bit 2 .c
  | .bit2D => .bit 2 .d
  | .bit2E => .bit 2 .e
  | .bit2H => .bit 2 .h
  | .bit2L => .bit 2 .l
  | .bit2IndHl => .bit 2 .indHl
  | .bit2A => .bit 2 .a
  | .bit3B => .bit 3 .b
  | .bit3C => .bit 3 .c
  | .bit3D => .bit 3 .d
  | .bit3E => .bit 3 .e
  | .bit3H => .bit 3 .h
  | .bit3L => .bit 3 .l
  | .bit3IndHl => .bit 3 .indHl
  | .bit3A => .bit 3 .a
  | .bit4B => .bit 4 .b
  | .bit4C => .bit 4 .c
  | .bit4D => .bit 4 .d
  | .bit4E => .bit 4 .e
  | .bit4H => .bit 4 .h
  | .bit4L => .bit 4 .l
  | .bit4IndHl => .bit 4 .indHl
  | .bit4A => .bit 4 .a
  | .bit5B => .bit 5 .b
  | .bit5C => .bit 5 .c
  | .bit5D => .bit 5 .d
  | .bit5E => .bit 5 .e
  | .bit5H => .bit 5 .h
  | .bit5L => .bit 5 .l
  | .bit5IndHl => .bit 5 .indHl
  | .bit5A => .bit 5 .a
  | .bit6B => .bit 6 .b
  | .bit6C => .bit 6 .c
  | .bit6D => .bit 6 .d
  | .bit6E => .bit 6 .e
  | .bit6H => .bit 6 .h
  | .bit6L => .bit 6 .l
  | .bit6IndHl => .bit 6 .indHl
  | .bit6A => .bit 6 .a
  | .bit7B => .bit 7 .b
  | .bit7C => .bit 7 .c
  | .bit7D => .bit 7 .d
  | .bit7E => .bit 7 .e
  | .bit7H => .bit 7 .h
  | .bit7L => .bit 7 .l
  | .bit7IndHl => .bit 7 .indHl
  | .bit7A => .bit 7 .a
  | .res0B => .res 0 .b
  | .res0C => .res 0 .c
  | .res0D => .res 0 .d
  | .res0E => .res 0 .e
  | .res0H => .res 0 .h
  | .res0L => .res 0 .l
  | .res0IndHl => .res 0 .indHl
  | .res0A => .res 0 .a
  | .res1B => .res 1 .b
  | .res1C => .res 1 .c
  | .res1D => .res 1 .d
  | .res1E => .res 1 .e
  | .res1H => .res 1 .h
  | .res1L => .res 1 .l
  | .res1IndHl => .res 1 .indHl
  | .res1A => .res 1 .a
  | .res2B => .res 2 .b
  | .res2C => .res 2 .c
  | .res2D => .res 2 .d
  | .res2E => .res 2 .e
  | .res2H => .res 2 .h
  | .res2L => .res 2 .l
  | .res2IndHl => .res 2 .indHl
  | .res2A => .res 2 .a
  | .res3B => .res 3 .b
  | .res3C => .res 3 .c
  | .res3D => .res 3 .d
  | .res3E => .res 3 .e
  | .res3H => .res 3 .h
  | .res3L => .res 3 .l
  | .res3IndHl => .res 3 .indHl
  | .res3A => .res 3 .a
  | .res4B => .res 4 .b
  | .res4C => .res 4 .c
  | .res4D => .res 4 .d
  | .res4E => .res 4 .e
  | .res4H => .res 4 .h
  | .res4L => .res 4 .l
  | .res4IndHl => .res 4 .indHl
  | .res4A => .res 4 .a
  | .res5B => .res 5 .b
  | .res5C => .res 5 .c
  | .res5D => .res 5 .d
  | .res5E => .res 5 .e
  | .res5H => .res 5 .h
  | .res5L => .res 5 .l
  | .res5IndHl => .res 5 .indHl
  | .res5A => .res 5 .a
  | .res6B => .res 6 .b
  | .res6C => .res 6 .c
  | .res6D => .res 6 .d
  | .res6E => .res 6 .e
  | .res6H => .res 6 .h
  | .res6L => .res 6 .l
  | .res6IndHl => .res 6 .indHl
  | .res6A => .res 6 .a
  | .res7B => .res 7 .b
  | .res7C => .res 7 .c
  | .res7D => .res 7 .d
  | .res7E => .res 7 .e
  | .res7H => .res 7 .h
  | .res7L => .res 7 .l
  | .res7IndHl => .res 7 .indHl
  | .res7A => .res 7 .a
  | .set0B => .set 0 .b
  | .set0C => .set 0 .c
  | .set0D => .set 0 .d
  | .set0E => .set 0 .e
  | .set0H => .set 0 .h
  | .set0L => .set 0 .l
  | .set0IndHl => .set 0 .indHl
  | .set0A => .set 0 .a
  | .set1B => .set 1 .b
  | .set1C => .set 1 .c
  | .set1D => .set 1 .d
  | .set1E => .set 1 .e
  | .set1H => .set 1 .h
  | .set1L => .set 1 .l
  | .set1IndHl => .set 1 .indHl
  | .set1A => .set 1 .a
  | .set2B => .set 2 .b
  | .set2C => .set 2 .c
  | .set2D => .set 2 .d
  | .set2E => .set 2 .e
  | .set2H => .set 2 .h
  | .set2L => .set 2 .l
  | .set2IndHl => .set 2 .indHl
  | .set2A => .set 2 .a
  | .set3B => .set 3 .b
  | .set3C => .set 3 .c
  | .set3D => .set 3 .d
  | .set3E => .set 3 .e
  | .set3H => .set 3 .h
  | .set3L => .set 3 .l
  | .set3IndHl => .set 3 .indHl
  | .set3A => .set 3 .a
  | .set4B => .set 4 .b
  | .set4C => .set 4 .c
  | .set4D => .set 4 .d
  | .set4E => .set 4 .e
  | .set4H => .set 4 .h
  | .set4L => .set 4 .l
  | .set4IndHl => .set 4 .indHl
  | .set4A => .set 4 .a
  | .set5B => .set 5 .b
  | .set5C => .set 5 .c
  | .set5D => .set 5 .d
  | .set5E => .set 5 .e
  | .set5H => .set 5 .h
  | .set5L => .set 5 .l
  | .set5IndHl => .set 5 .indHl
  | .set5A => .set 5 .a
  | .set6B => .set 6 .b
  | .set6C => .set 6 .c
  | .set6D => .set 6 .d
  | .set6E => .set 6 .e
  | .set6H => .set 6 .h
  | .set6L => .set 6 .l
  | .set6IndHl => .set 6 .indHl
  | .set6A => .set 6 .a
  | .set7B => .set 7 .b
  | .set7C => .set 7 .c
  | .set7D => .set 7 .d
  | .set7E => .set 7 .e
  | .set7H => .set 7 .h
  | .set7L => .set 7 .l
  | .set7IndHl => .set 7 .indHl
  | .set7A => .set 7 .a

/-- What a form does. -/
def Form.run (g : Form) (s : State) : Host.Outcome State Fault Refusal :=
  match g with
  | .ldRegReg dst z => .next ((s.setReg dst (s.getReg z)).advance 1)
  | .ldRegMem dst => .next ((s.setReg dst (s.read8 s.hl)).advance 1)
  | .ldMemReg z => .next ((s.write8 s.hl (s.getReg z)).advance 1)
  | .ldImm z v => .next ((s.setSlot z v).advance 2)
  | .alu op z => .next ((s.aluA op (s.getSlot z)).advance 1)
  | .aluImm op v => .next ((s.aluA op v).advance 2)
  | .inc z => .next ((s.incSlot z).advance 1)
  | .dec z => .next ((s.decSlot z).advance 1)
  | .ldPair p v => .next ((s.setPair p v).advance 3)
  | .addHl p => .next ((s.addHl (s.getPair p)).advance 1)
  | .incPair p => .next ((s.setPair p (s.getPair p + 1)).advance 1)
  | .decPair p => .next ((s.setPair p (s.getPair p - 1)).advance 1)
  | .rotA op => .next ((s.rotateA op).advance 1)
  | .rot op z => .next ((s.rotateSlot op z).advance 2)
  | .bit k z => .next ((s.testBit k z).advance 2)
  | .res k z => .next ((s.resetBit k z).advance 2)
  | .set k z => .next ((s.setSlotBit k z).advance 2)
  | .jpCc cc w => .next (s.jumpIf cc w 3)
  | .jrCc cc v => .next (s.jumpIf cc (s.relTarget v) 2)
  | .callCc cc w => .next (s.callIf cc w 3)
  | .retCc cc => .next (s.retIf cc)
  | .rst w => .next (s.call w 1)
  | .push p => .next ((s.push16 (s.getStackPair p)).advance 1)
  | .pop p => .next ((s.popPair p).advance 1)
  | .stop op => .fault (.unsupportedStop op)
  | .unbound op => .fault (.unknownPrimaryOpcode op)
  | .nop => .next (s.advance 1)
  | .ldIndBcA => .next ((s.write8 s.bc s.a).advance 1)
  | .ldIndA16Sp a16 => .next ((s.write16 a16 s.sp).advance 3)
  | .ldAIndBc => .next ((s.setReg .a (s.read8 s.bc)).advance 1)
  | .ldIndDeA => .next ((s.write8 s.de s.a).advance 1)
  | .jrE8 e8 => .next (s.jump (s.relTarget e8))
  | .ldAIndDe => .next ((s.setReg .a (s.read8 s.de)).advance 1)
  | .ldIndHlIncA => .next (((s.write8 s.hl s.a).setPair .hl (s.hl + 1)).advance 1)
  | .daa => .next ((s.daa).advance 1)
  | .ldAIndHlInc => .next (((s.setReg .a (s.read8 s.hl)).setPair .hl (s.hl + 1)).advance 1)
  | .cplAcc => .next ((s.complementA).advance 1)
  | .ldIndHlDecA => .next (((s.write8 s.hl s.a).setPair .hl (s.hl - 1)).advance 1)
  | .scf => .next ((s.setCarry).advance 1)
  | .ldAIndHlDec => .next (((s.setReg .a (s.read8 s.hl)).setPair .hl (s.hl - 1)).advance 1)
  | .ccf => .next ((s.complementCarry).advance 1)
  | .jpA16 a16 => .next (s.jump a16)
  | .ret => .next (s.ret)
  | .prefixCb xop => .next ((s.extended xop).advance 2)
  | .callA16 a16 => .next (s.call a16 3)
  | .reti => .next (s.returnFromInterrupt)
  | .ldhIndA8A a8 => .next ((s.write8 (highPage a8) s.a).advance 2)
  | .ldIndCA => .next ((s.write8 (highPage s.c) s.a).advance 1)
  | .addSpE8 e8 => .next ((s.addSp e8).advance 2)
  | .jpHl => .next (s.jump s.hl)
  | .ldIndA16A a16 => .next ((s.write8 a16 s.a).advance 3)
  | .ldhAIndA8 a8 => .next ((s.setReg .a (s.read8 (highPage a8))).advance 2)
  | .ldAIndC => .next ((s.setReg .a (s.read8 (highPage s.c))).advance 1)
  | .di => .next ((s.requestDisable).advance 1)
  | .ldHlSpE8 e8 => .next ((s.loadHlSp e8).advance 2)
  | .ldSpHl => .next ((s.setPair .sp s.hl).advance 1)
  | .ldAIndA16 a16 => .next ((s.setReg .a (s.read8 a16)).advance 3)
  | .ei => .next ((s.requestEnable).advance 1)

/-- What an instruction does is what its form does. -/
theorem exec_eq_run (i : Instr) (s : State) : exec i s = (formOf i).run s := by
  cases i <;> rfl

/-! ### The families of the opcode maps -/

theorem exec_ldOf_reg (dst z : Reg) (s : State) : exec (ldOf dst.slot z.slot) s = .next ((s.setReg dst (s.getReg z)).advance 1) := by
  cases dst <;> cases z <;> rfl

theorem exec_ldOf_mem (dst : Reg) (s : State) : exec (ldOf dst.slot .indHl) s = .next ((s.setReg dst (s.read8 s.hl)).advance 1) := by
  cases dst <;> rfl

theorem exec_ldOf_store (z : Reg) (s : State) : exec (ldOf .indHl z.slot) s = .next ((s.write8 s.hl (s.getReg z)).advance 1) := by
  cases z <;> rfl

theorem exec_ldImmOf (z : Slot) (v : Byte) (s : State) : exec (ldImmOf z v) s = .next ((s.setSlot z v).advance 2) := by
  cases z <;> rfl

theorem exec_aluOf (op : AluOp) (z : Slot) (s : State) : exec (aluOf op z) s = .next ((s.aluA op (s.getSlot z)).advance 1) := by
  cases op <;> cases z <;> rfl

theorem exec_aluImmOf (op : AluOp) (v : Byte) (s : State) : exec (aluImmOf op v) s = .next ((s.aluA op v).advance 2) := by
  cases op <;> rfl

theorem exec_incOf (z : Slot) (s : State) : exec (incOf z) s = .next ((s.incSlot z).advance 1) := by
  cases z <;> rfl

theorem exec_decOf (z : Slot) (s : State) : exec (decOf z) s = .next ((s.decSlot z).advance 1) := by
  cases z <;> rfl

theorem exec_ldPairOf (p : Pair) (v : Word) (s : State) : exec (ldPairOf p v) s = .next ((s.setPair p v).advance 3) := by
  cases p <;> rfl

theorem exec_addHlOf (p : Pair) (s : State) : exec (addHlOf p) s = .next ((s.addHl (s.getPair p)).advance 1) := by
  cases p <;> rfl

theorem exec_incPairOf (p : Pair) (s : State) : exec (incPairOf p) s = .next ((s.setPair p (s.getPair p + 1)).advance 1) := by
  cases p <;> rfl

theorem exec_decPairOf (p : Pair) (s : State) : exec (decPairOf p) s = .next ((s.setPair p (s.getPair p - 1)).advance 1) := by
  cases p <;> rfl

theorem exec_pushOf (p : StackPair) (s : State) : exec (pushOf p) s = .next ((s.push16 (s.getStackPair p)).advance 1) := by
  cases p <;> rfl

theorem exec_popOf (p : StackPair) (s : State) : exec (popOf p) s = .next ((s.popPair p).advance 1) := by
  cases p <;> rfl

theorem exec_jrCcOf (cc : Cond) (v : Byte) (s : State) : exec (jrCcOf cc v) s = .next (s.jumpIf cc (s.relTarget v) 2) := by
  cases cc <;> rfl

theorem exec_jpCcOf (cc : Cond) (w : Word) (s : State) : exec (jpCcOf cc w) s = .next (s.jumpIf cc w 3) := by
  cases cc <;> rfl

theorem exec_callCcOf (cc : Cond) (w : Word) (s : State) : exec (callCcOf cc w) s = .next (s.callIf cc w 3) := by
  cases cc <;> rfl

theorem exec_retCcOf (cc : Cond) (s : State) : exec (retCcOf cc) s = .next (s.retIf cc) := by
  cases cc <;> rfl

theorem exec_rstOf (t : Fin 8) (s : State) : exec (rstOf t) s = .next (s.call (BitVec.ofNat 16 (8 * t.val)) 1) := by
  fin_cases t <;> rfl

theorem exec_rotOf (op : RotOp) (z : Slot) (s : State) : exec (rotOf op z) s = .next ((s.rotateSlot op z).advance 2) := by
  cases op <;> cases z <;> rfl

theorem exec_bitOf (k : Fin 8) (z : Slot) (s : State) : exec (bitOf k z) s = .next ((s.testBit k.val z).advance 2) := by
  fin_cases k <;> cases z <;> rfl

theorem exec_resOf (k : Fin 8) (z : Slot) (s : State) : exec (resOf k z) s = .next ((s.resetBit k.val z).advance 2) := by
  fin_cases k <;> cases z <;> rfl

theorem exec_setOf (k : Fin 8) (z : Slot) (s : State) : exec (setOf k z) s = .next ((s.setSlotBit k.val z).advance 2) := by
  fin_cases k <;> cases z <;> rfl

end Sys2Proof.Machine
end

