-- ==== Sys2Proof/Laws/Frames.lean ====
section
/-! SUPPORT. What each shared operation leaves alone: memory reads and flags through register updates, 8-bit registers through pair and
slot updates, and the two halves of a word. -/

namespace Sys2Proof.Machine

/-! ### The two bytes of a word -/

theorem toNat_ofBytes (h l : Byte) : (ofBytes h l).toNat = h.toNat * 256 + l.toNat := by
  have hl := Nat.shiftLeft_add_eq_or_of_lt l.isLt h.toNat
  rw [Nat.shiftLeft_eq] at hl
  unfold ofBytes
  rw [BitVec.toNat_append, Nat.shiftLeft_eq, ← hl]

theorem toNat_loByte (w : Word) : (loByte w).toNat = w.toNat % 256 := by simp [loByte]

theorem toNat_hiByte (w : Word) : (hiByte w).toNat = w.toNat / 256 := by
  have := w.isLt
  have h : (hiByte w).toNat = w.toNat / 256 % 256 := by simp [hiByte, Nat.shiftRight_eq_div_pow]
  omega

@[simp] theorem hiByte_ofBytes (h l : Byte) : hiByte (ofBytes h l) = h := by
  apply BitVec.eq_of_toNat_eq
  have := l.isLt
  rw [toNat_hiByte, toNat_ofBytes]
  omega

@[simp] theorem loByte_ofBytes (h l : Byte) : loByte (ofBytes h l) = l := by
  apply BitVec.eq_of_toNat_eq
  have := l.isLt
  rw [toNat_loByte, toNat_ofBytes]
  omega

/-- A word is its two bytes (10_state.md R12). -/
@[simp] theorem ofBytes_hiByte_loByte (w : Word) : ofBytes (hiByte w) (loByte w) = w := by
  apply BitVec.eq_of_toNat_eq
  rw [toNat_ofBytes, toNat_hiByte, toNat_loByte]
  omega

/-- Masking a word's low byte is masking the word: POP AF's F (10_state.md R13). -/
theorem ofBytes_masked (w : Word) : ofBytes (hiByte w) (loByte w &&& 0xF0) = w &&& 0xFFF0 := by
  have h : (0xFFF0 : Word) = ofBytes 0xFF 0xF0 := rfl
  conv => rhs; rw [h, ← ofBytes_hiByte_loByte w]
  unfold ofBytes
  rw [BitVec.and_append, show (hiByte w &&& 0xFF) = hiByte w from BitVec.and_allOnes]

/-! ### Memory through register updates -/

/-- What keeps the memory list and the parameters keeps every byte. -/
theorem keepsMemory_of {s t : State} (hm : t.mem = s.mem) (hp : t.params = s.params) : KeepsMemory s t :=
  ⟨State.read8_congr hm hp, hm⟩

@[simp] theorem State.read8_advance (s : State) (len : Nat) (x : Word) : (s.advance len).read8 x = s.read8 x := State.read8_congr (by simp) (by simp) x
@[simp] theorem State.read8_jump (s : State) (target : Word) (x : Word) : (s.jump target).read8 x = s.read8 x := State.read8_congr (by simp) (by simp) x
@[simp] theorem State.read8_drop16 (s : State) (x : Word) : (s.drop16).read8 x = s.read8 x := State.read8_congr (by simp) (by simp) x
@[simp] theorem State.read8_count (s : State) (op : Byte) (x : Word) : (s.count op).read8 x = s.read8 x := State.read8_congr (by simp) (by simp) x
@[simp] theorem State.read8_setF (s : State) (v : Byte) (x : Word) : (s.setF v).read8 x = s.read8 x := State.read8_congr (by simp) (by simp) x
@[simp] theorem State.read8_withFlags (s : State) (z n h c : Bool) (x : Word) : (s.withFlags z n h c).read8 x = s.read8 x := State.read8_congr (by simp) (by simp) x
@[simp] theorem State.read8_setFlag (s : State) (k : Flag) (v : Bool) (x : Word) : (s.setFlag k v).read8 x = s.read8 x := State.read8_congr (by simp) (by simp) x
@[simp] theorem State.read8_setReg (s : State) (r : Reg) (v : Byte) (x : Word) : (s.setReg r v).read8 x = s.read8 x := State.read8_congr (by simp) (by simp) x
@[simp] theorem State.read8_setPair (s : State) (p : Pair) (v : Word) (x : Word) : (s.setPair p v).read8 x = s.read8 x := State.read8_congr (by simp) (by simp) x
@[simp] theorem State.read8_setStackPair (s : State) (p : StackPair) (v : Word) (x : Word) : (s.setStackPair p v).read8 x = s.read8 x := State.read8_congr (by simp) (by simp) x

/-! ### Flags through updates that do not write F -/

@[simp] theorem State.flag_advance (s : State) (len : Nat) (j : Flag) : (s.advance len).flag j = s.flag j := State.flag_congr (by simp) j
@[simp] theorem State.flag_jump (s : State) (target : Word) (j : Flag) : (s.jump target).flag j = s.flag j := State.flag_congr (by simp) j
@[simp] theorem State.flag_drop16 (s : State) (j : Flag) : (s.drop16).flag j = s.flag j := State.flag_congr (by simp) j
@[simp] theorem State.flag_count (s : State) (op : Byte) (j : Flag) : (s.count op).flag j = s.flag j := State.flag_congr (by simp) j
@[simp] theorem State.flag_setReg (s : State) (r : Reg) (v : Byte) (j : Flag) : (s.setReg r v).flag j = s.flag j := State.flag_congr (by simp) j
@[simp] theorem State.flag_setPair (s : State) (p : Pair) (v : Word) (j : Flag) : (s.setPair p v).flag j = s.flag j := State.flag_congr (by simp) j
@[simp] theorem State.flag_setSlot (s : State) (z : Slot) (v : Byte) (j : Flag) : (s.setSlot z v).flag j = s.flag j := State.flag_congr (by simp) j
@[simp] theorem State.flag_write8 (s : State) (a : Word) (v : Byte) (j : Flag) : (s.write8 a v).flag j = s.flag j := State.flag_congr (by simp) j
@[simp] theorem State.flag_write16 (s : State) (a v : Word) (j : Flag) : (s.write16 a v).flag j = s.flag j := State.flag_congr (by simp) j
@[simp] theorem State.flag_push16 (s : State) (v : Word) (j : Flag) : (s.push16 v).flag j = s.flag j := State.flag_congr (by simp) j

/-! ### 8-bit registers through pair and slot updates -/

/-- The registers of other pairs are kept. -/
theorem State.getReg_setPair (s : State) (p : Pair) (v : Word) (r : Reg) (h : r ∉ pairRegs p) :
    (s.setPair p v).getReg r = s.getReg r := by
  cases p <;> cases r <;> first | rfl | exact absurd (by decide) h

/-- The registers of other pairs are kept. -/
theorem State.getReg_setStackPair (s : State) (p : StackPair) (v : Word) (r : Reg) (h : r ∉ stackPairRegs p) :
    (s.setStackPair p v).getReg r = s.getReg r := by
  cases p <;> cases r <;> first | rfl | exact absurd (by decide) h

/-- Every register but the slot's own is kept. -/
theorem State.getReg_setSlot (s : State) (z : Slot) (v : Byte) (r : Reg) (h : r ∉ slotRegs z) :
    (s.setSlot z v).getReg r = s.getReg r := by
  cases z <;> cases r <;> first | rfl | exact absurd (by decide) h

/-- A register slot holds what was written. -/
theorem State.getSlot_setSlot (s : State) (z : Slot) (v : Byte) (h : z ≠ .indHl) : (s.setSlot z v).getSlot z = v := by
  cases z <;> first | rfl | exact absurd rfl h

/-- Every byte but the slot's own is kept. -/
theorem State.read8_setSlot_of_ne (s : State) (z : Slot) (v : Byte) {a : Word}
    (h : ∀ b ∈ slotStores s z, cellOf s.params a ≠ cellOf s.params b) : (s.setSlot z v).read8 a = s.read8 a := by
  cases z <;> first | rfl | exact State.read8_write8_of_ne s v (h s.hl (by simp [slotStores]))

/-- The memory slot reads back as a stored byte does. -/
theorem State.read8_setSlot_indHl (s : State) (v : Byte) : (s.setSlot .indHl v).read8 s.hl = seen s.hl v :=
  State.read8_write8_self s s.hl v

/-! ### A push -/

theorem sub_two_add_one (w : Word) : w - 2 + 1 = w - 1 := by bv_omega

/-- The low byte of what was pushed, read back. -/
theorem State.read8_push16_lo (s : State) (v : Word) : (s.push16 v).read8 (s.sp - 2) = seen (s.sp - 2) (loByte v) :=
  State.read8_write16_lo { s with sp := s.sp - 2 } _ v

/-- The high byte of what was pushed, read back. -/
theorem State.read8_push16_hi (s : State) (v : Word) : (s.push16 v).read8 (s.sp - 1) = seen (s.sp - 1) (hiByte v) := by
  rw [← sub_two_add_one]
  exact State.read8_write16_hi { s with sp := s.sp - 2 } _ v

/-- A push leaves every byte but its two alone. -/
theorem State.read8_push16_of_ne (s : State) (v : Word) {a : Word} (h0 : cellOf s.params a ≠ cellOf s.params (s.sp - 2))
    (h1 : cellOf s.params a ≠ cellOf s.params (s.sp - 1)) : (s.push16 v).read8 a = s.read8 a := by
  rw [← sub_two_add_one] at h1
  exact State.read8_write16_of_ne { s with sp := s.sp - 2 } v h0 h1

end Sys2Proof.Machine
end

