-- ==== Sys2Proof/Laws/PerInstr.lean ====
section
/-! SUPPORT. A statement about every instruction, one lemma per constructor: the first byte of its encoding says how many bytes the
encoding has (30_encoding.md R71). -/

namespace Sys2Proof.Laws.Encoding

/-- The length of the encoding is the length that its first byte calls for. -/
def Statement (i : Instr) : Prop := (encode i).length = instrLength ((encode i).headD 0)

theorem ldBcD16 (d16 : Word) : Statement (.ldBcD16 d16) := rfl
theorem ldBD8 (d8 : Byte) : Statement (.ldBD8 d8) := rfl
theorem ldIndA16Sp (a16 : Word) : Statement (.ldIndA16Sp a16) := rfl
theorem ldCD8 (d8 : Byte) : Statement (.ldCD8 d8) := rfl
theorem ldDeD16 (d16 : Word) : Statement (.ldDeD16 d16) := rfl
theorem ldDD8 (d8 : Byte) : Statement (.ldDD8 d8) := rfl
theorem jrE8 (e8 : Byte) : Statement (.jrE8 e8) := rfl
theorem ldED8 (d8 : Byte) : Statement (.ldED8 d8) := rfl
theorem jrNzE8 (e8 : Byte) : Statement (.jrNzE8 e8) := rfl
theorem ldHlD16 (d16 : Word) : Statement (.ldHlD16 d16) := rfl
theorem ldHD8 (d8 : Byte) : Statement (.ldHD8 d8) := rfl
theorem jrZE8 (e8 : Byte) : Statement (.jrZE8 e8) := rfl
theorem ldLD8 (d8 : Byte) : Statement (.ldLD8 d8) := rfl
theorem jrNcE8 (e8 : Byte) : Statement (.jrNcE8 e8) := rfl
theorem ldSpD16 (d16 : Word) : Statement (.ldSpD16 d16) := rfl
theorem ldIndHlD8 (d8 : Byte) : Statement (.ldIndHlD8 d8) := rfl
theorem jrCE8 (e8 : Byte) : Statement (.jrCE8 e8) := rfl
theorem ldAD8 (d8 : Byte) : Statement (.ldAD8 d8) := rfl
theorem jpNzA16 (a16 : Word) : Statement (.jpNzA16 a16) := rfl
theorem jpA16 (a16 : Word) : Statement (.jpA16 a16) := rfl
theorem callNzA16 (a16 : Word) : Statement (.callNzA16 a16) := rfl
theorem addAD8 (d8 : Byte) : Statement (.addAD8 d8) := rfl
theorem jpZA16 (a16 : Word) : Statement (.jpZA16 a16) := rfl
theorem prefixCb (xop : Byte) : Statement (.prefixCb xop) := rfl
theorem callZA16 (a16 : Word) : Statement (.callZA16 a16) := rfl
theorem callA16 (a16 : Word) : Statement (.callA16 a16) := rfl
theorem adcAD8 (d8 : Byte) : Statement (.adcAD8 d8) := rfl
theorem jpNcA16 (a16 : Word) : Statement (.jpNcA16 a16) := rfl
theorem callNcA16 (a16 : Word) : Statement (.callNcA16 a16) := rfl
theorem subD8 (d8 : Byte) : Statement (.subD8 d8) := rfl
theorem jpCA16 (a16 : Word) : Statement (.jpCA16 a16) := rfl
theorem callCA16 (a16 : Word) : Statement (.callCA16 a16) := rfl
theorem sbcAD8 (d8 : Byte) : Statement (.sbcAD8 d8) := rfl
theorem ldhIndA8A (a8 : Byte) : Statement (.ldhIndA8A a8) := rfl
theorem andD8 (d8 : Byte) : Statement (.andD8 d8) := rfl
theorem addSpE8 (e8 : Byte) : Statement (.addSpE8 e8) := rfl
theorem ldIndA16A (a16 : Word) : Statement (.ldIndA16A a16) := rfl
theorem xorD8 (d8 : Byte) : Statement (.xorD8 d8) := rfl
theorem ldhAIndA8 (a8 : Byte) : Statement (.ldhAIndA8 a8) := rfl
theorem orD8 (d8 : Byte) : Statement (.orD8 d8) := rfl
theorem ldHlSpE8 (e8 : Byte) : Statement (.ldHlSpE8 e8) := rfl
theorem ldAIndA16 (a16 : Word) : Statement (.ldAIndA16 a16) := rfl
theorem cpD8 (d8 : Byte) : Statement (.cpD8 d8) := rfl
theorem nop : Statement .nop := rfl
theorem ldIndBcA : Statement .ldIndBcA := rfl
theorem incBc : Statement .incBc := rfl
theorem incB : Statement .incB := rfl
theorem decB : Statement .decB := rfl
theorem rlcAcc : Statement .rlcAcc := rfl
theorem addHlBc : Statement .addHlBc := rfl
theorem ldAIndBc : Statement .ldAIndBc := rfl
theorem decBc : Statement .decBc := rfl
theorem incC : Statement .incC := rfl
theorem decC : Statement .decC := rfl
theorem rrcAcc : Statement .rrcAcc := rfl
theorem stop : Statement .stop := rfl
theorem ldIndDeA : Statement .ldIndDeA := rfl
theorem incDe : Statement .incDe := rfl
theorem incD : Statement .incD := rfl
theorem decD : Statement .decD := rfl
theorem rlAcc : Statement .rlAcc := rfl
theorem addHlDe : Statement .addHlDe := rfl
theorem ldAIndDe : Statement .ldAIndDe := rfl
theorem decDe : Statement .decDe := rfl
theorem incE : Statement .incE := rfl
theorem decE : Statement .decE := rfl
theorem rrAcc : Statement .rrAcc := rfl
theorem ldIndHlIncA : Statement .ldIndHlIncA := rfl
theorem incHl : Statement .incHl := rfl
theorem incH : Statement .incH := rfl
theorem decH : Statement .decH := rfl
theorem daa : Statement .daa := rfl
theorem addHlHl : Statement .addHlHl := rfl
theorem ldAIndHlInc : Statement .ldAIndHlInc := rfl
theorem decHl : Statement .decHl := rfl
theorem incL : Statement .incL := rfl
theorem decL : Statement .decL := rfl
theorem cplAcc : Statement .cplAcc := rfl
theorem ldIndHlDecA : Statement .ldIndHlDecA := rfl
theorem incSp : Statement .incSp := rfl
theorem incIndHl : Statement .incIndHl := rfl
theorem decIndHl : Statement .decIndHl := rfl
theorem scf : Statement .scf := rfl
theorem addHlSp : Statement .addHlSp := rfl
theorem ldAIndHlDec : Statement .ldAIndHlDec := rfl
theorem decSp : Statement .decSp := rfl
theorem incA : Statement .incA := rfl
theorem decA : Statement .decA := rfl
theorem ccf : Statement .ccf := rfl
theorem ldBB : Statement .ldBB := rfl
theorem ldBC : Statement .ldBC := rfl
theorem ldBD : Statement .ldBD := rfl
theorem ldBE : Statement .ldBE := rfl
theorem ldBH : Statement .ldBH := rfl
theorem ldBL : Statement .ldBL := rfl
theorem ldBIndHl : Statement .ldBIndHl := rfl
theorem ldBA : Statement .ldBA := rfl
theorem ldCB : Statement .ldCB := rfl
theorem ldCC : Statement .ldCC := rfl
theorem ldCD : Statement .ldCD := rfl
theorem ldCE : Statement .ldCE := rfl
theorem ldCH : Statement .ldCH := rfl
theorem ldCL : Statement .ldCL := rfl
theorem ldCIndHl : Statement .ldCIndHl := rfl
theorem ldCA : Statement .ldCA := rfl
theorem ldDB : Statement .ldDB := rfl
theorem ldDC : Statement .ldDC := rfl
theorem ldDD : Statement .ldDD := rfl
theorem ldDE : Statement .ldDE := rfl
theorem ldDH : Statement .ldDH := rfl
theorem ldDL : Statement .ldDL := rfl
theorem ldDIndHl : Statement .ldDIndHl := rfl
theorem ldDA : Statement .ldDA := rfl
theorem ldEB : Statement .ldEB := rfl
theorem ldEC : Statement .ldEC := rfl
theorem ldED : Statement .ldED := rfl
theorem ldEE : Statement .ldEE := rfl
theorem ldEH : Statement .ldEH := rfl
theorem ldEL : Statement .ldEL := rfl
theorem ldEIndHl : Statement .ldEIndHl := rfl
theorem ldEA : Statement .ldEA := rfl
theorem ldHB : Statement .ldHB := rfl
theorem ldHC : Statement .ldHC := rfl
theorem ldHD : Statement .ldHD := rfl
theorem ldHE : Statement .ldHE := rfl
theorem ldHH : Statement .ldHH := rfl
theorem ldHL : Statement .ldHL := rfl
theorem ldHIndHl : Statement .ldHIndHl := rfl
theorem ldHA : Statement .ldHA := rfl
theorem ldLB : Statement .ldLB := rfl
theorem ldLC : Statement .ldLC := rfl
theorem ldLD : Statement .ldLD := rfl
theorem ldLE : Statement .ldLE := rfl
theorem ldLH : Statement .ldLH := rfl
theorem ldLL : Statement .ldLL := rfl
theorem ldLIndHl : Statement .ldLIndHl := rfl
theorem ldLA : Statement .ldLA := rfl
theorem ldIndHlB : Statement .ldIndHlB := rfl
theorem ldIndHlC : Statement .ldIndHlC := rfl
theorem ldIndHlD : Statement .ldIndHlD := rfl
theorem ldIndHlE : Statement .ldIndHlE := rfl
theorem ldIndHlH : Statement .ldIndHlH := rfl
theorem ldIndHlL : Statement .ldIndHlL := rfl
theorem halt : Statement .halt := rfl
theorem ldIndHlA : Statement .ldIndHlA := rfl
theorem ldAB : Statement .ldAB := rfl
theorem ldAC : Statement .ldAC := rfl
theorem ldAD : Statement .ldAD := rfl
theorem ldAE : Statement .ldAE := rfl
theorem ldAH : Statement .ldAH := rfl
theorem ldAL : Statement .ldAL := rfl
theorem ldAIndHl : Statement .ldAIndHl := rfl
theorem ldAA : Statement .ldAA := rfl
theorem addAB : Statement .addAB := rfl
theorem addAC : Statement .addAC := rfl
theorem addAD : Statement .addAD := rfl
theorem addAE : Statement .addAE := rfl
theorem addAH : Statement .addAH := rfl
theorem addAL : Statement .addAL := rfl
theorem addAIndHl : Statement .addAIndHl := rfl
theorem addAA : Statement .addAA := rfl
theorem adcAB : Statement .adcAB := rfl
theorem adcAC : Statement .adcAC := rfl
theorem adcAD : Statement .adcAD := rfl
theorem adcAE : Statement .adcAE := rfl
theorem adcAH : Statement .adcAH := rfl
theorem adcAL : Statement .adcAL := rfl
theorem adcAIndHl : Statement .adcAIndHl := rfl
theorem adcAA : Statement .adcAA := rfl
theorem subB : Statement .subB := rfl
theorem subC : Statement .subC := rfl
theorem subD : Statement .subD := rfl
theorem subE : Statement .subE := rfl
theorem subH : Statement .subH := rfl
theorem subL : Statement .subL := rfl
theorem subIndHl : Statement .subIndHl := rfl
theorem subA : Statement .subA := rfl
theorem sbcAB : Statement .sbcAB := rfl
theorem sbcAC : Statement .sbcAC := rfl
theorem sbcAD : Statement .sbcAD := rfl
theorem sbcAE : Statement .sbcAE := rfl
theorem sbcAH : Statement .sbcAH := rfl
theorem sbcAL : Statement .sbcAL := rfl
theorem sbcAIndHl : Statement .sbcAIndHl := rfl
theorem sbcAA : Statement .sbcAA := rfl
theorem andB : Statement .andB := rfl
theorem andC : Statement .andC := rfl
theorem andD : Statement .andD := rfl
theorem andE : Statement .andE := rfl
theorem andH : Statement .andH := rfl
theorem andL : Statement .andL := rfl
theorem andIndHl : Statement .andIndHl := rfl
theorem andA : Statement .andA := rfl
theorem xorB : Statement .xorB := rfl
theorem xorC : Statement .xorC := rfl
theorem xorD : Statement .xorD := rfl
theorem xorE : Statement .xorE := rfl
theorem xorH : Statement .xorH := rfl
theorem xorL : Statement .xorL := rfl
theorem xorIndHl : Statement .xorIndHl := rfl
theorem xorA : Statement .xorA := rfl
theorem orB : Statement .orB := rfl
theorem orC : Statement .orC := rfl
theorem orD : Statement .orD := rfl
theorem orE : Statement .orE := rfl
theorem orH : Statement .orH := rfl
theorem orL : Statement .orL := rfl
theorem orIndHl : Statement .orIndHl := rfl
theorem orA : Statement .orA := rfl
theorem cpB : Statement .cpB := rfl
theorem cpC : Statement .cpC := rfl
theorem cpD : Statement .cpD := rfl
theorem cpE : Statement .cpE := rfl
theorem cpH : Statement .cpH := rfl
theorem cpL : Statement .cpL := rfl
theorem cpIndHl : Statement .cpIndHl := rfl
theorem cpA : Statement .cpA := rfl
theorem retNz : Statement .retNz := rfl
theorem popBc : Statement .popBc := rfl
theorem pushBc : Statement .pushBc := rfl
theorem rst00h : Statement .rst00h := rfl
theorem retZ : Statement .retZ := rfl
theorem ret : Statement .ret := rfl
theorem rst08h : Statement .rst08h := rfl
theorem retNc : Statement .retNc := rfl
theorem popDe : Statement .popDe := rfl
theorem undefinedD3 : Statement .undefinedD3 := rfl
theorem pushDe : Statement .pushDe := rfl
theorem rst10h : Statement .rst10h := rfl
theorem retC : Statement .retC := rfl
theorem reti : Statement .reti := rfl
theorem undefinedDb : Statement .undefinedDb := rfl
theorem undefinedDd : Statement .undefinedDd := rfl
theorem rst18h : Statement .rst18h := rfl
theorem popHl : Statement .popHl := rfl
theorem ldIndCA : Statement .ldIndCA := rfl
theorem undefinedE3 : Statement .undefinedE3 := rfl
theorem undefinedE4 : Statement .undefinedE4 := rfl
theorem pushHl : Statement .pushHl := rfl
theorem rst20h : Statement .rst20h := rfl
theorem jpHl : Statement .jpHl := rfl
theorem undefinedEb : Statement .undefinedEb := rfl
theorem undefinedEc : Statement .undefinedEc := rfl
theorem undefinedEd : Statement .undefinedEd := rfl
theorem rst28h : Statement .rst28h := rfl
theorem popAf : Statement .popAf := rfl
theorem ldAIndC : Statement .ldAIndC := rfl
theorem di : Statement .di := rfl
theorem undefinedF4 : Statement .undefinedF4 := rfl
theorem pushAf : Statement .pushAf := rfl
theorem rst30h : Statement .rst30h := rfl
theorem ldSpHl : Statement .ldSpHl := rfl
theorem ei : Statement .ei := rfl
theorem undefinedFc : Statement .undefinedFc := rfl
theorem undefinedFd : Statement .undefinedFd := rfl
theorem rst38h : Statement .rst38h := rfl
theorem rlcB : Statement .rlcB := rfl
theorem rlcC : Statement .rlcC := rfl
theorem rlcD : Statement .rlcD := rfl
theorem rlcE : Statement .rlcE := rfl
theorem rlcH : Statement .rlcH := rfl
theorem rlcL : Statement .rlcL := rfl
theorem rlcIndHl : Statement .rlcIndHl := rfl
theorem rlcA : Statement .rlcA := rfl
theorem rrcB : Statement .rrcB := rfl
theorem rrcC : Statement .rrcC := rfl
theorem rrcD : Statement .rrcD := rfl
theorem rrcE : Statement .rrcE := rfl
theorem rrcH : Statement .rrcH := rfl
theorem rrcL : Statement .rrcL := rfl
theorem rrcIndHl : Statement .rrcIndHl := rfl
theorem rrcA : Statement .rrcA := rfl
theorem rlB : Statement .rlB := rfl
theorem rlC : Statement .rlC := rfl
theorem rlD : Statement .rlD := rfl
theorem rlE : Statement .rlE := rfl
theorem rlH : Statement .rlH := rfl
theorem rlL : Statement .rlL := rfl
theorem rlIndHl : Statement .rlIndHl := rfl
theorem rlA : Statement .rlA := rfl
theorem rrB : Statement .rrB := rfl
theorem rrC : Statement .rrC := rfl
theorem rrD : Statement .rrD := rfl
theorem rrE : Statement .rrE := rfl
theorem rrH : Statement .rrH := rfl
theorem rrL : Statement .rrL := rfl
theorem rrIndHl : Statement .rrIndHl := rfl
theorem rrA : Statement .rrA := rfl
theorem slaB : Statement .slaB := rfl
theorem slaC : Statement .slaC := rfl
theorem slaD : Statement .slaD := rfl
theorem slaE : Statement .slaE := rfl
theorem slaH : Statement .slaH := rfl
theorem slaL : Statement .slaL := rfl
theorem slaIndHl : Statement .slaIndHl := rfl
theorem slaA : Statement .slaA := rfl
theorem sraB : Statement .sraB := rfl
theorem sraC : Statement .sraC := rfl
theorem sraD : Statement .sraD := rfl
theorem sraE : Statement .sraE := rfl
theorem sraH : Statement .sraH := rfl
theorem sraL : Statement .sraL := rfl
theorem sraIndHl : Statement .sraIndHl := rfl
theorem sraA : Statement .sraA := rfl
theorem swapB : Statement .swapB := rfl
theorem swapC : Statement .swapC := rfl
theorem swapD : Statement .swapD := rfl
theorem swapE : Statement .swapE := rfl
theorem swapH : Statement .swapH := rfl
theorem swapL : Statement .swapL := rfl
theorem swapIndHl : Statement .swapIndHl := rfl
theorem swapA : Statement .swapA := rfl
theorem srlB : Statement .srlB := rfl
theorem srlC : Statement .srlC := rfl
theorem srlD : Statement .srlD := rfl
theorem srlE : Statement .srlE := rfl
theorem srlH : Statement .srlH := rfl
theorem srlL : Statement .srlL := rfl
theorem srlIndHl : Statement .srlIndHl := rfl
theorem srlA : Statement .srlA := rfl
theorem bit0B : Statement .bit0B := rfl
theorem bit0C : Statement .bit0C := rfl
theorem bit0D : Statement .bit0D := rfl
theorem bit0E : Statement .bit0E := rfl
theorem bit0H : Statement .bit0H := rfl
theorem bit0L : Statement .bit0L := rfl
theorem bit0IndHl : Statement .bit0IndHl := rfl
theorem bit0A : Statement .bit0A := rfl
theorem bit1B : Statement .bit1B := rfl
theorem bit1C : Statement .bit1C := rfl
theorem bit1D : Statement .bit1D := rfl
theorem bit1E : Statement .bit1E := rfl
theorem bit1H : Statement .bit1H := rfl
theorem bit1L : Statement .bit1L := rfl
theorem bit1IndHl : Statement .bit1IndHl := rfl
theorem bit1A : Statement .bit1A := rfl
theorem bit2B : Statement .bit2B := rfl
theorem bit2C : Statement .bit2C := rfl
theorem bit2D : Statement .bit2D := rfl
theorem bit2E : Statement .bit2E := rfl
theorem bit2H : Statement .bit2H := rfl
theorem bit2L : Statement .bit2L := rfl
theorem bit2IndHl : Statement .bit2IndHl := rfl
theorem bit2A : Statement .bit2A := rfl
theorem bit3B : Statement .bit3B := rfl
theorem bit3C : Statement .bit3C := rfl
theorem bit3D : Statement .bit3D := rfl
theorem bit3E : Statement .bit3E := rfl
theorem bit3H : Statement .bit3H := rfl
theorem bit3L : Statement .bit3L := rfl
theorem bit3IndHl : Statement .bit3IndHl := rfl
theorem bit3A : Statement .bit3A := rfl
theorem bit4B : Statement .bit4B := rfl
theorem bit4C : Statement .bit4C := rfl
theorem bit4D : Statement .bit4D := rfl
theorem bit4E : Statement .bit4E := rfl
theorem bit4H : Statement .bit4H := rfl
theorem bit4L : Statement .bit4L := rfl
theorem bit4IndHl : Statement .bit4IndHl := rfl
theorem bit4A : Statement .bit4A := rfl
theorem bit5B : Statement .bit5B := rfl
theorem bit5C : Statement .bit5C := rfl
theorem bit5D : Statement .bit5D := rfl
theorem bit5E : Statement .bit5E := rfl
theorem bit5H : Statement .bit5H := rfl
theorem bit5L : Statement .bit5L := rfl
theorem bit5IndHl : Statement .bit5IndHl := rfl
theorem bit5A : Statement .bit5A := rfl
theorem bit6B : Statement .bit6B := rfl
theorem bit6C : Statement .bit6C := rfl
theorem bit6D : Statement .bit6D := rfl
theorem bit6E : Statement .bit6E := rfl
theorem bit6H : Statement .bit6H := rfl
theorem bit6L : Statement .bit6L := rfl
theorem bit6IndHl : Statement .bit6IndHl := rfl
theorem bit6A : Statement .bit6A := rfl
theorem bit7B : Statement .bit7B := rfl
theorem bit7C : Statement .bit7C := rfl
theorem bit7D : Statement .bit7D := rfl
theorem bit7E : Statement .bit7E := rfl
theorem bit7H : Statement .bit7H := rfl
theorem bit7L : Statement .bit7L := rfl
theorem bit7IndHl : Statement .bit7IndHl := rfl
theorem bit7A : Statement .bit7A := rfl
theorem res0B : Statement .res0B := rfl
theorem res0C : Statement .res0C := rfl
theorem res0D : Statement .res0D := rfl
theorem res0E : Statement .res0E := rfl
theorem res0H : Statement .res0H := rfl
theorem res0L : Statement .res0L := rfl
theorem res0IndHl : Statement .res0IndHl := rfl
theorem res0A : Statement .res0A := rfl
theorem res1B : Statement .res1B := rfl
theorem res1C : Statement .res1C := rfl
theorem res1D : Statement .res1D := rfl
theorem res1E : Statement .res1E := rfl
theorem res1H : Statement .res1H := rfl
theorem res1L : Statement .res1L := rfl
theorem res1IndHl : Statement .res1IndHl := rfl
theorem res1A : Statement .res1A := rfl
theorem res2B : Statement .res2B := rfl
theorem res2C : Statement .res2C := rfl
theorem res2D : Statement .res2D := rfl
theorem res2E : Statement .res2E := rfl
theorem res2H : Statement .res2H := rfl
theorem res2L : Statement .res2L := rfl
theorem res2IndHl : Statement .res2IndHl := rfl
theorem res2A : Statement .res2A := rfl
theorem res3B : Statement .res3B := rfl
theorem res3C : Statement .res3C := rfl
theorem res3D : Statement .res3D := rfl
theorem res3E : Statement .res3E := rfl
theorem res3H : Statement .res3H := rfl
theorem res3L : Statement .res3L := rfl
theorem res3IndHl : Statement .res3IndHl := rfl
theorem res3A : Statement .res3A := rfl
theorem res4B : Statement .res4B := rfl
theorem res4C : Statement .res4C := rfl
theorem res4D : Statement .res4D := rfl
theorem res4E : Statement .res4E := rfl
theorem res4H : Statement .res4H := rfl
theorem res4L : Statement .res4L := rfl
theorem res4IndHl : Statement .res4IndHl := rfl
theorem res4A : Statement .res4A := rfl
theorem res5B : Statement .res5B := rfl
theorem res5C : Statement .res5C := rfl
theorem res5D : Statement .res5D := rfl
theorem res5E : Statement .res5E := rfl
theorem res5H : Statement .res5H := rfl
theorem res5L : Statement .res5L := rfl
theorem res5IndHl : Statement .res5IndHl := rfl
theorem res5A : Statement .res5A := rfl
theorem res6B : Statement .res6B := rfl
theorem res6C : Statement .res6C := rfl
theorem res6D : Statement .res6D := rfl
theorem res6E : Statement .res6E := rfl
theorem res6H : Statement .res6H := rfl
theorem res6L : Statement .res6L := rfl
theorem res6IndHl : Statement .res6IndHl := rfl
theorem res6A : Statement .res6A := rfl
theorem res7B : Statement .res7B := rfl
theorem res7C : Statement .res7C := rfl
theorem res7D : Statement .res7D := rfl
theorem res7E : Statement .res7E := rfl
theorem res7H : Statement .res7H := rfl
theorem res7L : Statement .res7L := rfl
theorem res7IndHl : Statement .res7IndHl := rfl
theorem res7A : Statement .res7A := rfl
theorem set0B : Statement .set0B := rfl
theorem set0C : Statement .set0C := rfl
theorem set0D : Statement .set0D := rfl
theorem set0E : Statement .set0E := rfl
theorem set0H : Statement .set0H := rfl
theorem set0L : Statement .set0L := rfl
theorem set0IndHl : Statement .set0IndHl := rfl
theorem set0A : Statement .set0A := rfl
theorem set1B : Statement .set1B := rfl
theorem set1C : Statement .set1C := rfl
theorem set1D : Statement .set1D := rfl
theorem set1E : Statement .set1E := rfl
theorem set1H : Statement .set1H := rfl
theorem set1L : Statement .set1L := rfl
theorem set1IndHl : Statement .set1IndHl := rfl
theorem set1A : Statement .set1A := rfl
theorem set2B : Statement .set2B := rfl
theorem set2C : Statement .set2C := rfl
theorem set2D : Statement .set2D := rfl
theorem set2E : Statement .set2E := rfl
theorem set2H : Statement .set2H := rfl
theorem set2L : Statement .set2L := rfl
theorem set2IndHl : Statement .set2IndHl := rfl
theorem set2A : Statement .set2A := rfl
theorem set3B : Statement .set3B := rfl
theorem set3C : Statement .set3C := rfl
theorem set3D : Statement .set3D := rfl
theorem set3E : Statement .set3E := rfl
theorem set3H : Statement .set3H := rfl
theorem set3L : Statement .set3L := rfl
theorem set3IndHl : Statement .set3IndHl := rfl
theorem set3A : Statement .set3A := rfl
theorem set4B : Statement .set4B := rfl
theorem set4C : Statement .set4C := rfl
theorem set4D : Statement .set4D := rfl
theorem set4E : Statement .set4E := rfl
theorem set4H : Statement .set4H := rfl
theorem set4L : Statement .set4L := rfl
theorem set4IndHl : Statement .set4IndHl := rfl
theorem set4A : Statement .set4A := rfl
theorem set5B : Statement .set5B := rfl
theorem set5C : Statement .set5C := rfl
theorem set5D : Statement .set5D := rfl
theorem set5E : Statement .set5E := rfl
theorem set5H : Statement .set5H := rfl
theorem set5L : Statement .set5L := rfl
theorem set5IndHl : Statement .set5IndHl := rfl
theorem set5A : Statement .set5A := rfl
theorem set6B : Statement .set6B := rfl
theorem set6C : Statement .set6C := rfl
theorem set6D : Statement .set6D := rfl
theorem set6E : Statement .set6E := rfl
theorem set6H : Statement .set6H := rfl
theorem set6L : Statement .set6L := rfl
theorem set6IndHl : Statement .set6IndHl := rfl
theorem set6A : Statement .set6A := rfl
theorem set7B : Statement .set7B := rfl
theorem set7C : Statement .set7C := rfl
theorem set7D : Statement .set7D := rfl
theorem set7E : Statement .set7E := rfl
theorem set7H : Statement .set7H := rfl
theorem set7L : Statement .set7L := rfl
theorem set7IndHl : Statement .set7IndHl := rfl
theorem set7A : Statement .set7A := rfl

end Sys2Proof.Laws.Encoding
end

