-- ==== Sys2Proof/Laws/Shared.lean ====
section
/-! SUPPORT. What every shared operation, and so every instruction, keeps: F's low nibble zero, memory canonical, the counters, the
inputs to come, the parameters. One lemma an operation, and `exec_keeps` for all instructions at once. -/

namespace Sys2Proof.Machine

/-- What no instruction breaks. -/
structure Keeps (s t : State) : Prop where
  low : FlagsLowZero s → FlagsLowZero t
  wf : s.mem.wf → t.mem.wf
  instrCount : t.instrCount = s.instrCount
  tickCount : t.tickCount = s.tickCount
  joyReq : t.joyReq = s.joyReq
  params : t.params = s.params

/-- A state with the same F, memory, counters, inputs and parameters. -/
theorem Keeps.of {s t : State} (hf : t.f = s.f) (hm : t.mem = s.mem) (hi : t.instrCount = s.instrCount)
    (ht : t.tickCount = s.tickCount) (hj : t.joyReq = s.joyReq) (hp : t.params = s.params) : Keeps s t :=
  ⟨fun h => by simpa only [FlagsLowZero, hf] using h, fun h => by rw [hm]; exact h, hi, ht, hj, hp⟩

theorem Keeps.trans {s t u : State} (x : Keeps s t) (y : Keeps t u) : Keeps s u :=
  ⟨y.low ∘ x.low, y.wf ∘ x.wf, y.instrCount.trans x.instrCount, y.tickCount.trans x.tickCount, y.joyReq.trans x.joyReq,
    y.params.trans x.params⟩

/-! ### The named operations -/

theorem State.keeps_advance (s : State) (len : Nat) : Keeps s (s.advance len) := (Keeps.of rfl rfl rfl rfl rfl rfl)
theorem State.keeps_jump (s : State) (w : Word) : Keeps s (s.jump w) := (Keeps.of rfl rfl rfl rfl rfl rfl)
theorem State.keeps_drop16 (s : State) : Keeps s s.drop16 := (Keeps.of rfl rfl rfl rfl rfl rfl)
theorem State.keeps_setF (s : State) (v : Byte) : Keeps s (s.setF v) := ⟨fun _ => s.setF_low v, id, rfl, rfl, rfl, rfl⟩
theorem State.keeps_withFlags (s : State) (z n h c : Bool) : Keeps s (s.withFlags z n h c) := s.keeps_setF _
theorem State.keeps_setFlag (s : State) (k : Flag) (v : Bool) : Keeps s (s.setFlag k v) := s.keeps_setF _
theorem State.keeps_write8 (s : State) (a : Word) (v : Byte) : Keeps s (s.write8 a v) :=
  ⟨id, fun h => State.wf_write8 h a v, rfl, rfl, rfl, rfl⟩
theorem State.keeps_write16 (s : State) (a v : Word) : Keeps s (s.write16 a v) := (s.keeps_write8 _ _).trans (State.keeps_write8 _ _ _)
theorem State.keeps_push16 (s : State) (v : Word) : Keeps s (s.push16 v) :=
  Keeps.trans (t := { s with sp := s.sp - 2 }) (Keeps.of rfl rfl rfl rfl rfl rfl) (State.keeps_write16 _ _ _)
theorem State.keeps_setReg (s : State) (r : Reg) (v : Byte) : Keeps s (s.setReg r v) := by cases r <;> exact (Keeps.of rfl rfl rfl rfl rfl rfl)
theorem State.keeps_setPair (s : State) (p : Pair) (v : Word) : Keeps s (s.setPair p v) := by cases p <;> exact (Keeps.of rfl rfl rfl rfl rfl rfl)
theorem State.keeps_setSlot (s : State) (z : Slot) (v : Byte) : Keeps s (s.setSlot z v) := by
  cases z <;> first | exact (Keeps.of rfl rfl rfl rfl rfl rfl) | exact s.keeps_write8 _ _
theorem State.keeps_setStackPair (s : State) (p : StackPair) (v : Word) : Keeps s (s.setStackPair p v) := by
  cases p <;> first | exact (Keeps.of rfl rfl rfl rfl rfl rfl) | exact (s.keeps_setReg .a _).trans (State.keeps_setF _ _)

/-! ### The bodies of the instructions -/

theorem State.keeps_aluA (s : State) (op : AluOp) (v : Byte) : Keeps s (s.aluA op v) := by
  cases op <;> first | exact s.keeps_withFlags _ _ _ _ | exact (s.keeps_setReg .a _).trans (State.keeps_withFlags _ _ _ _ _)
theorem State.keeps_incSlot (s : State) (z : Slot) : Keeps s (s.incSlot z) := (s.keeps_setSlot z _).trans (State.keeps_withFlags _ _ _ _ _)
theorem State.keeps_decSlot (s : State) (z : Slot) : Keeps s (s.decSlot z) := (s.keeps_setSlot z _).trans (State.keeps_withFlags _ _ _ _ _)
theorem State.keeps_daa (s : State) : Keeps s s.daa := (s.keeps_setReg .a _).trans (State.keeps_withFlags _ _ _ _ _)
theorem State.keeps_complementA (s : State) : Keeps s s.complementA :=
  ((s.keeps_setReg .a _).trans (State.keeps_setFlag _ .n _)).trans (State.keeps_setFlag _ .h _)
theorem State.keeps_setCarry (s : State) : Keeps s s.setCarry :=
  ((s.keeps_setFlag .n _).trans (State.keeps_setFlag _ .h _)).trans (State.keeps_setFlag _ .c _)
theorem State.keeps_complementCarry (s : State) : Keeps s s.complementCarry :=
  ((s.keeps_setFlag .n _).trans (State.keeps_setFlag _ .h _)).trans (State.keeps_setFlag _ .c _)
theorem State.keeps_addHl (s : State) (v : Word) : Keeps s (s.addHl v) :=
  ((s.keeps_setPair .hl _).trans (State.keeps_setFlag _ .h _)).trans (State.keeps_setFlag _ .c _)
theorem State.keeps_addSp (s : State) (v : Byte) : Keeps s (s.addSp v) := (s.keeps_setPair .sp _).trans (State.keeps_withFlags _ _ _ _ _)
theorem State.keeps_loadHlSp (s : State) (v : Byte) : Keeps s (s.loadHlSp v) := (s.keeps_setPair .hl _).trans (State.keeps_withFlags _ _ _ _ _)
theorem State.keeps_rotateA (s : State) (op : RotOp) : Keeps s (s.rotateA op) := (s.keeps_setReg .a _).trans (State.keeps_withFlags _ _ _ _ _)
theorem State.keeps_rotateSlot (s : State) (op : RotOp) (z : Slot) : Keeps s (s.rotateSlot op z) :=
  (s.keeps_setSlot z _).trans (State.keeps_withFlags _ _ _ _ _)
theorem State.keeps_testBit (s : State) (b : Nat) (z : Slot) : Keeps s (s.testBit b z) := s.keeps_withFlags _ _ _ _
theorem State.keeps_resetBit (s : State) (b : Nat) (z : Slot) : Keeps s (s.resetBit b z) := s.keeps_setSlot z _
theorem State.keeps_setSlotBit (s : State) (b : Nat) (z : Slot) : Keeps s (s.setSlotBit b z) := s.keeps_setSlot z _
theorem State.keeps_extended (s : State) (xop : Byte) : Keeps s (s.extended xop) := by
  unfold State.extended
  dsimp only
  split
  · exact s.keeps_rotateSlot _ _
  · exact s.keeps_testBit _ _
  · exact s.keeps_resetBit _ _
  · exact s.keeps_setSlotBit _ _
theorem State.keeps_jumpIf (s : State) (cc : Cond) (w : Word) (len : Nat) : Keeps s (s.jumpIf cc w len) := by
  unfold State.jumpIf
  split <;> exact (Keeps.of rfl rfl rfl rfl rfl rfl)
theorem State.keeps_call (s : State) (w : Word) (len : Nat) : Keeps s (s.call w len) := (s.keeps_push16 _).trans (State.keeps_jump _ _)
theorem State.keeps_callIf (s : State) (cc : Cond) (w : Word) (len : Nat) : Keeps s (s.callIf cc w len) := by
  unfold State.callIf
  split
  · exact s.keeps_call w len
  · exact (Keeps.of rfl rfl rfl rfl rfl rfl)
theorem State.keeps_ret (s : State) : Keeps s s.ret := (Keeps.of rfl rfl rfl rfl rfl rfl)
theorem State.keeps_retIf (s : State) (cc : Cond) : Keeps s (s.retIf cc) := by
  unfold State.retIf
  split <;> exact (Keeps.of rfl rfl rfl rfl rfl rfl)
theorem State.keeps_popPair (s : State) (p : StackPair) : Keeps s (s.popPair p) := s.keeps_drop16.trans (State.keeps_setStackPair _ _ _)
theorem State.keeps_requestDisable (s : State) : Keeps s s.requestDisable := (Keeps.of rfl rfl rfl rfl rfl rfl)
theorem State.keeps_requestEnable (s : State) : Keeps s s.requestEnable := (Keeps.of rfl rfl rfl rfl rfl rfl)
theorem State.keeps_returnFromInterrupt (s : State) : Keeps s s.returnFromInterrupt := (Keeps.of rfl rfl rfl rfl rfl rfl)
theorem State.keeps_enterInterrupt (s : State) (k : IrqClass) : Keeps s (s.enterInterrupt k) :=
  Keeps.trans (t := { s with ime := false }) (Keeps.of rfl rfl rfl rfl rfl rfl)
    (((State.keeps_write8 _ _ _).trans (State.keeps_push16 _ _)).trans (State.keeps_jump _ _))

/-! ### Every form, every instruction -/

theorem Keeps.of_next {s t u : State} (k : Keeps s u) (h : (.next u : Host.Outcome State Fault Refusal) = .next t) :
    Keeps s t := by
  injection h with h
  exact h ▸ k

theorem Form.run_keeps (g : Form) (s t : State) (h : g.run s = .next t) : Keeps s t := by
  cases g with
  | ldRegReg dst z => exact .of_next ((State.keeps_setReg _ dst _).trans (State.keeps_advance _ _)) h
  | ldRegMem dst => exact .of_next ((State.keeps_setReg _ dst _).trans (State.keeps_advance _ _)) h
  | ldMemReg z => exact .of_next ((State.keeps_write8 _ _ _).trans (State.keeps_advance _ _)) h
  | ldImm z v => exact .of_next ((State.keeps_setSlot _ z v).trans (State.keeps_advance _ _)) h
  | alu op z => exact .of_next ((State.keeps_aluA _ op _).trans (State.keeps_advance _ _)) h
  | aluImm op v => exact .of_next ((State.keeps_aluA _ op v).trans (State.keeps_advance _ _)) h
  | inc z => exact .of_next ((State.keeps_incSlot _ z).trans (State.keeps_advance _ _)) h
  | dec z => exact .of_next ((State.keeps_decSlot _ z).trans (State.keeps_advance _ _)) h
  | ldPair p v => exact .of_next ((State.keeps_setPair _ p v).trans (State.keeps_advance _ _)) h
  | addHl p => exact .of_next ((State.keeps_addHl _ _).trans (State.keeps_advance _ _)) h
  | incPair p => exact .of_next ((State.keeps_setPair _ p _).trans (State.keeps_advance _ _)) h
  | decPair p => exact .of_next ((State.keeps_setPair _ p _).trans (State.keeps_advance _ _)) h
  | rotA op => exact .of_next ((State.keeps_rotateA _ op).trans (State.keeps_advance _ _)) h
  | rot op z => exact .of_next ((State.keeps_rotateSlot _ op z).trans (State.keeps_advance _ _)) h
  | bit k z => exact .of_next ((State.keeps_testBit _ k z).trans (State.keeps_advance _ _)) h
  | res k z => exact .of_next ((State.keeps_resetBit _ k z).trans (State.keeps_advance _ _)) h
  | set k z => exact .of_next ((State.keeps_setSlotBit _ k z).trans (State.keeps_advance _ _)) h
  | jpCc cc v => exact .of_next (State.keeps_jumpIf _ cc v 3) h
  | jrCc cc v => exact .of_next (State.keeps_jumpIf _ cc _ 2) h
  | callCc cc v => exact .of_next (State.keeps_callIf _ cc v 3) h
  | retCc cc => exact .of_next (State.keeps_retIf _ cc) h
  | rst v => exact .of_next (State.keeps_call _ v 1) h
  | push p => exact .of_next ((State.keeps_push16 _ _).trans (State.keeps_advance _ _)) h
  | pop p => exact .of_next ((State.keeps_popPair _ p).trans (State.keeps_advance _ _)) h
  | stop op => exact absurd h (fun h => nomatch h)
  | unbound op => exact absurd h (fun h => nomatch h)
  | nop => exact .of_next (State.keeps_advance _ 1) h
  | ldIndBcA => exact .of_next ((State.keeps_write8 _ _ _).trans (State.keeps_advance _ _)) h
  | ldIndA16Sp v => exact .of_next ((State.keeps_write16 _ v _).trans (State.keeps_advance _ _)) h
  | ldAIndBc => exact .of_next ((State.keeps_setReg _ .a _).trans (State.keeps_advance _ _)) h
  | ldIndDeA => exact .of_next ((State.keeps_write8 _ _ _).trans (State.keeps_advance _ _)) h
  | jrE8 v => exact .of_next (State.keeps_jump _ _) h
  | ldAIndDe => exact .of_next ((State.keeps_setReg _ .a _).trans (State.keeps_advance _ _)) h
  | ldIndHlIncA => exact .of_next (((State.keeps_write8 _ _ _).trans (State.keeps_setPair _ .hl _)).trans (State.keeps_advance _ _)) h
  | daa => exact .of_next ((State.keeps_daa _).trans (State.keeps_advance _ _)) h
  | ldAIndHlInc => exact .of_next (((State.keeps_setReg _ .a _).trans (State.keeps_setPair _ .hl _)).trans (State.keeps_advance _ _)) h
  | cplAcc => exact .of_next ((State.keeps_complementA _).trans (State.keeps_advance _ _)) h
  | ldIndHlDecA => exact .of_next (((State.keeps_write8 _ _ _).trans (State.keeps_setPair _ .hl _)).trans (State.keeps_advance _ _)) h
  | scf => exact .of_next ((State.keeps_setCarry _).trans (State.keeps_advance _ _)) h
  | ldAIndHlDec => exact .of_next (((State.keeps_setReg _ .a _).trans (State.keeps_setPair _ .hl _)).trans (State.keeps_advance _ _)) h
  | ccf => exact .of_next ((State.keeps_complementCarry _).trans (State.keeps_advance _ _)) h
  | jpA16 v => exact .of_next (State.keeps_jump _ v) h
  | ret => exact .of_next (State.keeps_ret _) h
  | prefixCb xop => exact .of_next ((State.keeps_extended _ xop).trans (State.keeps_advance _ _)) h
  | callA16 v => exact .of_next (State.keeps_call _ v 3) h
  | reti => exact .of_next (State.keeps_returnFromInterrupt _) h
  | ldhIndA8A v => exact .of_next ((State.keeps_write8 _ _ _).trans (State.keeps_advance _ _)) h
  | ldIndCA => exact .of_next ((State.keeps_write8 _ _ _).trans (State.keeps_advance _ _)) h
  | addSpE8 v => exact .of_next ((State.keeps_addSp _ v).trans (State.keeps_advance _ _)) h
  | jpHl => exact .of_next (State.keeps_jump _ _) h
  | ldIndA16A v => exact .of_next ((State.keeps_write8 _ v _).trans (State.keeps_advance _ _)) h
  | ldhAIndA8 v => exact .of_next ((State.keeps_setReg _ .a _).trans (State.keeps_advance _ _)) h
  | ldAIndC => exact .of_next ((State.keeps_setReg _ .a _).trans (State.keeps_advance _ _)) h
  | di => exact .of_next ((State.keeps_requestDisable _).trans (State.keeps_advance _ _)) h
  | ldHlSpE8 v => exact .of_next ((State.keeps_loadHlSp _ v).trans (State.keeps_advance _ _)) h
  | ldSpHl => exact .of_next ((State.keeps_setPair _ .sp _).trans (State.keeps_advance _ _)) h
  | ldAIndA16 v => exact .of_next ((State.keeps_setReg _ .a _).trans (State.keeps_advance _ _)) h
  | ei => exact .of_next ((State.keeps_requestEnable _).trans (State.keeps_advance _ _)) h

/-- No instruction breaks what `Keeps` says. -/
theorem exec_keeps (i : Instr) (s t : State) (h : exec i s = .next t) : Keeps s t :=
  Form.run_keeps (formOf i) s t ((exec_eq_run i s) ▸ h)

/-- The body of an extended instruction writes no IME. -/
theorem State.extended_ime (s : State) (xop : Byte) : (s.extended xop).ime = s.ime := by
  unfold State.extended
  dsimp only
  split <;> simp [State.rotateSlot, State.testBit, State.resetBit, State.setSlotBit]

theorem Form.run_ime (g : Form) (s t : State) (h : g.run s = .next t) (hi : s.ime = true) : t.ime = true := by
  cases g <;> simp only [Form.run, Host.Outcome.next.injEq, reduceCtorEq] at h <;> rw [← h] <;>
    simp [hi, State.extended_ime, State.aluA, State.incSlot, State.decSlot, State.daa, State.complementA, State.setCarry,
      State.complementCarry, State.addHl, State.addSp, State.loadHlSp, State.rotateA, State.rotateSlot, State.testBit,
      State.resetBit, State.setSlotBit, State.call, State.popPair, State.requestDisable, State.requestEnable, State.ret,
      State.returnFromInterrupt, State.jumpIf, State.callIf, State.retIf, apply_ite State.ime]
  all_goals (split <;> simp [hi])

/-- No instruction clears IME: DI only asks the poll to (46_system.md R253). -/
theorem exec_ime (i : Instr) (s t : State) (h : exec i s = .next t) (hi : s.ime = true) : t.ime = true :=
  Form.run_ime (formOf i) s t ((exec_eq_run i s) ▸ h) hi

/-! ### Interrupt entry and return, field by field -/

@[simp] theorem State.enterInterrupt_a (s : State) (k : IrqClass) : (s.enterInterrupt k).a = s.a := rfl
@[simp] theorem State.enterInterrupt_f (s : State) (k : IrqClass) : (s.enterInterrupt k).f = s.f := rfl
@[simp] theorem State.enterInterrupt_b (s : State) (k : IrqClass) : (s.enterInterrupt k).b = s.b := rfl
@[simp] theorem State.enterInterrupt_c (s : State) (k : IrqClass) : (s.enterInterrupt k).c = s.c := rfl
@[simp] theorem State.enterInterrupt_d (s : State) (k : IrqClass) : (s.enterInterrupt k).d = s.d := rfl
@[simp] theorem State.enterInterrupt_e (s : State) (k : IrqClass) : (s.enterInterrupt k).e = s.e := rfl
@[simp] theorem State.enterInterrupt_h (s : State) (k : IrqClass) : (s.enterInterrupt k).h = s.h := rfl
@[simp] theorem State.enterInterrupt_l (s : State) (k : IrqClass) : (s.enterInterrupt k).l = s.l := rfl
@[simp] theorem State.enterInterrupt_enableRequested (s : State) (k : IrqClass) : (s.enterInterrupt k).enableRequested = s.enableRequested := rfl
@[simp] theorem State.enterInterrupt_disableRequested (s : State) (k : IrqClass) : (s.enterInterrupt k).disableRequested = s.disableRequested := rfl
@[simp] theorem State.enterInterrupt_instrCount (s : State) (k : IrqClass) : (s.enterInterrupt k).instrCount = s.instrCount := rfl
@[simp] theorem State.enterInterrupt_tickCount (s : State) (k : IrqClass) : (s.enterInterrupt k).tickCount = s.tickCount := rfl
@[simp] theorem State.enterInterrupt_joyReq (s : State) (k : IrqClass) : (s.enterInterrupt k).joyReq = s.joyReq := rfl
@[simp] theorem State.enterInterrupt_params (s : State) (k : IrqClass) : (s.enterInterrupt k).params = s.params := rfl
@[simp] theorem State.enterInterrupt_ime (s : State) (k : IrqClass) : (s.enterInterrupt k).ime = false := rfl
@[simp] theorem State.enterInterrupt_pc (s : State) (k : IrqClass) : (s.enterInterrupt k).pc = k.vector := rfl
@[simp] theorem State.enterInterrupt_sp (s : State) (k : IrqClass) : (s.enterInterrupt k).sp = s.sp - 2 := rfl
@[simp] theorem State.returnFromInterrupt_a (s : State) : s.returnFromInterrupt.a = s.a := rfl
@[simp] theorem State.returnFromInterrupt_f (s : State) : s.returnFromInterrupt.f = s.f := rfl
@[simp] theorem State.returnFromInterrupt_b (s : State) : s.returnFromInterrupt.b = s.b := rfl
@[simp] theorem State.returnFromInterrupt_c (s : State) : s.returnFromInterrupt.c = s.c := rfl
@[simp] theorem State.returnFromInterrupt_d (s : State) : s.returnFromInterrupt.d = s.d := rfl
@[simp] theorem State.returnFromInterrupt_e (s : State) : s.returnFromInterrupt.e = s.e := rfl
@[simp] theorem State.returnFromInterrupt_h (s : State) : s.returnFromInterrupt.h = s.h := rfl
@[simp] theorem State.returnFromInterrupt_l (s : State) : s.returnFromInterrupt.l = s.l := rfl
@[simp] theorem State.returnFromInterrupt_enableRequested (s : State) : s.returnFromInterrupt.enableRequested = s.enableRequested := rfl
@[simp] theorem State.returnFromInterrupt_disableRequested (s : State) : s.returnFromInterrupt.disableRequested = s.disableRequested := rfl
@[simp] theorem State.returnFromInterrupt_instrCount (s : State) : s.returnFromInterrupt.instrCount = s.instrCount := rfl
@[simp] theorem State.returnFromInterrupt_tickCount (s : State) : s.returnFromInterrupt.tickCount = s.tickCount := rfl
@[simp] theorem State.returnFromInterrupt_joyReq (s : State) : s.returnFromInterrupt.joyReq = s.joyReq := rfl
@[simp] theorem State.returnFromInterrupt_params (s : State) : s.returnFromInterrupt.params = s.params := rfl
@[simp] theorem State.returnFromInterrupt_mem (s : State) : s.returnFromInterrupt.mem = s.mem := rfl
@[simp] theorem State.returnFromInterrupt_ime (s : State) : s.returnFromInterrupt.ime = true := rfl
@[simp] theorem State.returnFromInterrupt_pc (s : State) : s.returnFromInterrupt.pc = s.top16 := rfl
@[simp] theorem State.returnFromInterrupt_sp (s : State) : s.returnFromInterrupt.sp = s.sp + 2 := rfl

/-! ### The poll -/

/-- A trigger byte whose lowest dispatched bit is a class's dispatches that class. -/
theorem firstClass_eq_some (t : Byte) (k : IrqClass) (h : t.getLsbD k.bit = true)
    (h' : ∀ j : IrqClass, j.bit < k.bit → t.getLsbD j.bit = false) : firstClass t = some k := by
  have h0 := h' .vblank
  have h1 := h' .lcd
  have h2 := h' .timer
  have h3 := h' .joypad
  unfold firstClass
  cases k <;> simp_all [IrqClass.bit]

/-- A trigger byte without a dispatched bit dispatches nothing. -/
theorem firstClass_eq_none (t : Byte) (h : ∀ j : IrqClass, t.getLsbD j.bit = false) : firstClass t = none := by
  have h0 := h .vblank
  have h1 := h .lcd
  have h2 := h .timer
  have h3 := h .joypad
  unfold firstClass
  simp_all [IrqClass.bit]


theorem State.keeps_pollJoypad (s : State) (joy : Bool) : Keeps s (s.pollJoypad joy) := by
  unfold State.pollJoypad
  split
  · exact s.keeps_write8 _ _
  · exact (Keeps.of rfl rfl rfl rfl rfl rfl)

theorem State.keeps_pollDispatch (s : State) : Keeps s s.pollDispatch := by
  unfold State.pollDispatch
  split
  · split
    · exact s.keeps_enterInterrupt _
    · split <;> exact (Keeps.of rfl rfl rfl rfl rfl rfl)
  · exact (Keeps.of rfl rfl rfl rfl rfl rfl)

theorem State.keeps_pollRequests (s : State) : Keeps s s.pollRequests := by
  unfold State.pollRequests
  dsimp only
  split_ifs <;> exact .of rfl rfl rfl rfl rfl rfl

theorem State.keeps_poll (s : State) (joy : Bool) : Keeps s (s.poll joy) :=
  ((s.keeps_pollJoypad joy).trans (State.keeps_pollDispatch _)).trans (State.keeps_pollRequests _)

end Sys2Proof.Machine
end

