-- ==== Sys2Proof/Machine/Header.lean ====
section
/-! DEFINITION. The cartridge header (70_reset_and_hazards.md R303): informative, out of the spec's scope, "not functional to
execution". No step reads any of it; the fields and the checksum are functions of the image CART (log 28). -/

namespace Sys2Proof.Machine

/-- The byte of CART at an offset; the padding byte beyond its end (R292). -/
def headerByte (cart : List Byte) (offset : Nat) : Byte := cart.getD offset 0

/-- "16-byte title at offset 0x134". -/
def headerTitle (cart : List Byte) : List Byte := (List.range 16).map (fun i => headerByte cart (0x134 + i))

/-- "cartridge-type byte at 0x147". -/
def headerCartridgeType (cart : List Byte) : Byte := headerByte cart 0x147

/-- "rom-size code at 0x148". -/
def headerRomSize (cart : List Byte) : Byte := headerByte cart 0x148

/-- "ram-size code at 0x149". -/
def headerRamSize (cart : List Byte) : Byte := headerByte cart 0x149

/-- "header checksum at 0x14D". -/
def headerStoredChecksum (cart : List Byte) : Byte := headerByte cart 0x14D

/-- `checksum - byte - 1` over a list of bytes, modulo 256, from zero. -/
def checksumOf (bytes : List Byte) : Byte := bytes.foldl (fun sum v => sum - v - 1) 0

/-- The checksum over offsets 0x134 to 0x14C inclusive: verification only, not enforced. -/
def headerChecksum (cart : List Byte) : Byte := checksumOf ((List.range 25).map (fun i => headerByte cart (0x134 + i)))

end Sys2Proof.Machine
end

