-- ==== Sys2Proof/Tests/Slice0.lean ====
section
/-! SUPPORT. The model's own tests: well-formedness, words written bit by bit from the spec's encodings, one-step vectors of
95_test_vectors.md under their ids there, and for every obligation with hypotheses a theorem named witness_... whose states and
operands meet them. -/

namespace Sys2Proof.Tests

open Sys2Proof Sys2Proof.Machine

/-! ## Helpers -/

/-- The state with bytes stored from PC on. -/
def placed (s : State) (vs : List Byte) : State := s.placeBytes s.pc vs

/-- The step gives a next state with a property. -/
def runs (s : State) (p : State → Bool) : Bool :=
  match step s with
  | .next t => p t
  | .fault _ => false
  | .refused _ => false

/-- The step gives a fault. -/
def stops (s : State) (r : Fault) : Bool :=
  match step s with
  | .next _ => false
  | .fault r' => r' == r
  | .refused _ => false

/-- The state after one poll has a property. -/
def polled (s : State) (joy : Bool) (p : State → Bool) : Bool := p (s.poll joy)

/-- The names of the vectors that do not hold. -/
def failing (l : List (String × Bool)) : List String := (l.filter (fun x => !x.2)).map (fun x => x.1)

theorem runs_next {s : State} {p : State → Bool} (h : runs s p = true) : ∃ t, step s = .next t ∧ p t = true := by
  unfold runs at h
  split at h
  · next t ht => exact ⟨t, ht, h⟩
  · exact absurd h (by decide)
  · exact absurd h (by decide)

/-! ## Well-formedness -/

/-- The prefix alone is no instruction (46_system.md R255): refused. -/
theorem test_wellFormed_refuses_prefix : ∀ x : Byte, WellFormed (.prefixCb x) = false := by decide

/-- An extended instruction and an unbound opcode are well formed. -/
theorem test_wellFormed_accepts : WellFormed .bit7H = true ∧ WellFormed .undefinedD3 = true ∧ WellFormed (.ldAD8 0x42) = true := by
  decide

/-! ## Decoding: words written bit by bit (30_encoding.md R72 to R76, R80, R81, R86) -/

/-- 8-bit loads: 01 ddd sss, 01 ddd 110, 01 110 sss, 00 ddd 110, 0x3E and 0xE0 (R100 to R104, R112). -/
theorem test_decode_loads8 : decodeBytes 0b01000001 0 0 = .ldBC ∧ decodeBytes 0b01101110 0 0 = .ldLIndHl ∧
    decodeBytes 0b01110011 0 0 = .ldIndHlE ∧ decodeBytes 0b00100110 0x7F 0 = .ldHD8 0x7F ∧
    decodeBytes 0b00111110 0x42 0 = .ldAD8 0x42 ∧ decodeBytes 0b11100000 0x0F 0 = .ldhIndA8A 0x0F ∧
    decodeBytes 0b11111010 0x34 0x12 = .ldAIndA16 0x1234 := by
  decide

/-- 16-bit loads: 00 pp 0001, little-endian immediate (R77, R130 to R133). -/
theorem test_decode_loads16 : decodeBytes 0b00010001 0x34 0x12 = .ldDeD16 0x1234 ∧ decodeBytes 0b00001000 0x01 0x80 = .ldIndA16Sp 0x8001 ∧
    decodeBytes 0b11111001 0 0 = .ldSpHl ∧ decodeBytes 0b11111000 0xFE 0 = .ldHlSpE8 0xFE := by
  decide

/-- 8-bit arithmetic: 10 ooo sss, 11 ooo 110, 00 ddd 10x (R145 to R168). -/
theorem test_decode_alu8 : decodeBytes 0b10000000 0 0 = .addAB ∧ decodeBytes 0b10011110 0 0 = .sbcAIndHl ∧
    decodeBytes 0b10111111 0 0 = .cpA ∧ decodeBytes 0b11101110 0xFF 0 = .xorD8 0xFF ∧ decodeBytes 0b00110100 0 0 = .incIndHl ∧
    decodeBytes 0b00101101 0 0 = .decL ∧ decodeBytes 0b00100111 0 0 = .daa ∧ decodeBytes 0b00111111 0 0 = .ccf := by
  decide

/-- 16-bit arithmetic: 00 pp 1001, 00 pp 0011, 00 pp 1011, 0xE8 (R182 to R185). -/
theorem test_decode_alu16 : decodeBytes 0b00101001 0 0 = .addHlHl ∧ decodeBytes 0b00110011 0 0 = .incSp ∧
    decodeBytes 0b00011011 0 0 = .decDe ∧ decodeBytes 0b11101000 0x80 0 = .addSpE8 0x80 := by
  decide

/-- Rotates and bits: 0xCB then 00 ooo sss, 01 bbb sss, 10 bbb sss, 11 bbb sss (R190 to R205). -/
theorem test_decode_extended : decodeBytes 0b00010111 0 0 = .rlAcc ∧ decodeBytes 0xCB 0b00000110 0 = .rlcIndHl ∧
    decodeBytes 0xCB 0b00110111 0 = .swapA ∧ decodeBytes 0xCB 0b01111100 0 = .bit7H ∧ decodeBytes 0xCB 0b10011000 0 = .res3B ∧
    decodeBytes 0xCB 0b11100110 0 = .set4IndHl := by
  decide

/-- Control flow and the stack: 11 0cc 010, 001 cc 000, 11 0cc 100, 11 0cc 000, 11 ttt 111, 11 pp 0101, 11 pp 0001 (R223 to R235). -/
theorem test_decode_control : decodeBytes 0b11001010 0x34 0x12 = .jpZA16 0x1234 ∧ decodeBytes 0b00100000 0xFC 0 = .jrNzE8 0xFC ∧
    decodeBytes 0b11011100 0 0x40 = .callCA16 0x4000 ∧ decodeBytes 0b11010000 0 0 = .retNc ∧ decodeBytes 0b11101111 0 0 = .rst28h ∧
    decodeBytes 0b11110101 0 0 = .pushAf ∧ decodeBytes 0b11000001 0 0 = .popBc ∧ decodeBytes 0b11011001 0 0 = .reti := by
  decide

/-- System and unbound opcodes (R83, R250 to R256). -/
theorem test_decode_system : decodeBytes 0b11110011 0 0 = .di ∧ decodeBytes 0b11111011 0 0 = .ei ∧ decodeBytes 0b01110110 0 0 = .halt ∧
    decodeBytes 0b00010000 0 0 = .stop ∧ decodeBytes 0b11111101 0 0 = .undefinedFd := by
  decide

/-- A word of the table: an extended row is 0xCB then the low byte; any other two bytes are first byte lowest (R86; log 22). -/
theorem test_decodeTableWord : decodeTableWord 8 0x3E = some (.ldAD8 0) ∧ decodeTableWord 16 0xCB7C = some .bit7H ∧
    decodeTableWord 16 0x423E = some (.ldAD8 0x42) ∧ decodeTableWord 8 0xD3 = some .undefinedD3 := by
  decide

/-- An instruction placed at the fetch is the one that runs. -/
theorem test_withFetchWord : runs (State.reset.withFetchWord 16 0xCBFF) (fun t => t.a == 0x80 && t.pc == 2) = true ∧
    stops (State.reset.withFetchWord 8 0xD3) (.unknownPrimaryOpcode 0xD3) = true := by
  decide +kernel

/-! ## One-step vectors of 95_test_vectors.md -/

/-- Vectors L2 to L18 (those listed): 8-bit loads (2.1). -/
theorem test_loads8 : failing [
    ("L2 LD H,(HL)", runs (placed (({ State.reset with h := 0xc1, l := 0x23, pc := 0x0100 }).write8 0xC123 0x9A) [0x66])
      (fun t => t.hl == 0x9A23 && t.pc == 0x0101)),
    ("L3 LD (HL),L", runs (placed ({ State.reset with h := 0xc1, l := 0x23, pc := 0x0100 }) [0x75])
      (fun t => t.read8 0xC123 == 0x23 && t.pc == 0x0101)),
    ("L5 LD (HL),d8", runs (placed ({ State.reset with h := 0x80, l := 0x0, pc := 0x0100 }) [0x36, 0xFF])
      (fun t => t.read8 0x8000 == 0xFF && t.pc == 0x0102)),
    ("L6 LD A,(BC)", runs (placed ({ State.reset with b := 0xff, c := 0x44, pc := 0x0100 }) [0x0A]) (fun t => t.a == 0x90 && t.pc == 0x0101)),
    ("L8 LD A,(a16)", runs (placed (({ State.reset with pc := 0x0100 }).write8 0xFFFF 0x1F) [0xFA, 0xFF, 0xFF])
      (fun t => t.a == 0x1F && t.pc == 0x0103)),
    ("L9 LD (a16),A", runs (placed ({ State.reset with a := 0x05, pc := 0x0100 }) [0xEA, 0x00, 0x20])
      (fun t => t.read8 0x2000 == 0x05 && t.pc == 0x0103)),
    ("L10 LDH (a8),A", runs (placed ({ State.reset with a := 0xFF, pc := 0x0100 }) [0xE0, 0x0F]) (fun t => t.read8 0xFF0F == 0xFF && t.pc == 0x0102)),
    ("L11 LDH A,(a8)", runs (placed (({ State.reset with pc := 0x0100 }).write8 0xFF44 0x12) [0xF0, 0x44]) (fun t => t.a == 0x90 && t.pc == 0x0102)),
    ("L12 LD A,(C)", runs (placed (({ State.reset with c := 0x80, pc := 0x0100 }).write8 0xFF80 0x6B) [0xF2])
      (fun t => t.a == 0x6B && t.pc == 0x0101)),
    ("L13 LD (C),A", runs (placed ({ State.reset with c := 0xFF, a := 0x15, pc := 0x0100 }) [0xE2])
      (fun t => t.read8 0xFFFF == 0x15 && t.pc == 0x0101)),
    ("L14 LD (HL+),A", runs (placed ({ State.reset with h := 0xff, l := 0xff, a := 0x01, pc := 0x0100 }) [0x22])
      (fun t => t.read8 0xFFFF == 0x01 && t.hl == 0x0000 && t.pc == 0x0101)),
    ("L15 LD A,(HL-)", runs (placed (({ State.reset with h := 0x0, l := 0x0, pc := 0x0100 }).write8 0x0000 0x3A) [0x3A])
      (fun t => t.a == 0x3A && t.hl == 0xFFFF && t.pc == 0x0101)),
    ("L16 LD A,(HL+)", runs (placed (({ State.reset with h := 0xe0, l := 0x10, pc := 0x0100 }).write8 0x0010 0xC7) [0x2A])
      (fun t => t.a == 0xC7 && t.hl == 0xE011 && t.pc == 0x0101)),
    ("L17 LD (HL-),A", runs (placed ({ State.reset with h := 0xe0, l := 0x10, a := 0x5D, pc := 0x0100 }) [0x32])
      (fun t => t.read8 0xE010 == 0x5D && t.read8 0x0010 == 0x5D && t.read8 0xC010 == 0x00 && t.hl == 0xE00F && t.pc == 0x0101)),
    ("L18 LD A,d8 at the top", runs (placed (({ State.reset with pc := 0xFFFF }).write8 0x0000 0x99) [0x3E]) (fun t => t.a == 0x99 && t.pc == 0x0001))] = [] := by
  decide +kernel

/-- Vectors W1 to W8 (those listed): 16-bit loads (2.2). -/
theorem test_loads16 : failing [
    ("W1 LD BC,d16", runs (placed ({ State.reset with pc := 0x0100 }) [0x01, 0x34, 0x12])
      (fun t => t.bc == 0x1234 && t.b == 0x12 && t.c == 0x34 && t.pc == 0x0103)),
    ("W3 LD (a16),SP", runs (placed ({ State.reset with sp := 0xABCD, pc := 0x0100 }) [0x08, 0xFF, 0xFF])
      (fun t => t.read8 0xFFFF == 0xCD && t.read8 0x0000 == 0xAB && t.pc == 0x0103)),
    ("W4 LD SP,HL", runs (placed ({ State.reset with h := 0xd0, l := 0x0, pc := 0x0100 }) [0xF9]) (fun t => t.sp == 0xD000 && t.pc == 0x0101)),
    ("W6 LD HL,SP+e8 (-1)", runs (placed ({ State.reset with sp := 0x0001, pc := 0x0100 }) [0xF8, 0xFF])
      (fun t => t.hl == 0x0000 && t.f == 0x30 && t.pc == 0x0102)),
    ("W8 LD HL,SP+e8 (-128)", runs (placed ({ State.reset with sp := 0xD080, pc := 0x0100 }) [0xF8, 0x80])
      (fun t => t.hl == 0xD000 && t.f == 0x10 && t.pc == 0x0102))] = [] := by
  decide +kernel

/-- Vectors A1 to A38 (those listed): 8-bit arithmetic and logic (2.3). -/
theorem test_alu8 : failing [
    ("A1 ADD A,B", runs (placed ({ State.reset with a := 0x00, b := 0x00, pc := 0x0100 }) [0x80])
      (fun t => t.a == 0x00 && t.f == 0x80 && t.pc == 0x0101)),
    ("A4 ADD A,B", runs (placed ({ State.reset with a := 0xFF, b := 0x01, pc := 0x0100 }) [0x80])
      (fun t => t.a == 0x00 && t.f == 0xB0 && t.pc == 0x0101)),
    ("A6 ADD A,(HL)", runs (placed ({ State.reset with a := 0x70, h := 0xff, l := 0x44, pc := 0x0100 }) [0x86])
      (fun t => t.a == 0x00 && t.f == 0x90 && t.pc == 0x0101)),
    ("A9 ADC A,d8", runs (placed ({ State.reset with a := 0xFF, f := 0x10, pc := 0x0100 }) [0xCE, 0xFF])
      (fun t => t.a == 0xFF && t.f == 0x30 && t.pc == 0x0102)),
    ("A10 SUB B", runs (placed ({ State.reset with a := 0x00, b := 0x01, pc := 0x0100 }) [0x90])
      (fun t => t.a == 0xFF && t.f == 0x70 && t.pc == 0x0101)),
    ("A13 SBC A,B", runs (placed ({ State.reset with a := 0x00, b := 0xFF, f := 0x10, pc := 0x0100 }) [0x98])
      (fun t => t.a == 0x00 && t.f == 0xF0 && t.pc == 0x0101)),
    ("A14 SBC A,B", runs (placed ({ State.reset with a := 0x10, b := 0x0F, f := 0x10, pc := 0x0100 }) [0x98])
      (fun t => t.a == 0x00 && t.f == 0xE0 && t.pc == 0x0101)),
    ("A15 SBC A,A", runs (placed ({ State.reset with a := 0x42, f := 0x10, pc := 0x0100 }) [0x9F])
      (fun t => t.a == 0xFF && t.f == 0x70 && t.pc == 0x0101)),
    ("A16 CP d8", runs (placed ({ State.reset with a := 0x90, pc := 0x0100 }) [0xFE, 0x90]) (fun t => t.a == 0x90 && t.f == 0xC0 && t.pc == 0x0102)),
    ("A18 AND B", runs (placed ({ State.reset with a := 0xF0, b := 0x0F, f := 0x50, pc := 0x0100 }) [0xA0])
      (fun t => t.a == 0x00 && t.f == 0xA0 && t.pc == 0x0101)),
    ("A19 OR B", runs (placed ({ State.reset with a := 0x00, b := 0x00, f := 0x70, pc := 0x0100 }) [0xB0])
      (fun t => t.a == 0x00 && t.f == 0x80 && t.pc == 0x0101)),
    ("A20 XOR d8", runs (placed ({ State.reset with a := 0x0F, f := 0xF0, pc := 0x0100 }) [0xEE, 0xFF])
      (fun t => t.a == 0xF0 && t.f == 0x00 && t.pc == 0x0102)),
    ("A21 INC B", runs (placed ({ State.reset with b := 0x0F, f := 0x10, pc := 0x0100 }) [0x04])
      (fun t => t.b == 0x10 && t.f == 0x30 && t.pc == 0x0101)),
    ("A23 DEC B", runs (placed ({ State.reset with b := 0x00, f := 0x10, pc := 0x0100 }) [0x05])
      (fun t => t.b == 0xFF && t.f == 0x70 && t.pc == 0x0101)),
    ("A26 INC (HL)", runs (placed ({ State.reset with h := 0xff, l := 0x44, pc := 0x0100 }) [0x34])
      (fun t => t.read8 0xFF44 == 0x90 && t.f == 0x00 && t.pc == 0x0101)),
    ("A28 DAA", runs (placed ({ State.reset with a := 0x9A, pc := 0x0100 }) [0x27]) (fun t => t.a == 0x00 && t.f == 0x90 && t.pc == 0x0101)),
    ("A29 DAA", runs (placed ({ State.reset with a := 0x32, f := 0x30, pc := 0x0100 }) [0x27])
      (fun t => t.a == 0x98 && t.f == 0x10 && t.pc == 0x0101)),
    ("A36 CPL", runs (placed ({ State.reset with a := 0x00, f := 0x90, pc := 0x0100 }) [0x2F])
      (fun t => t.a == 0xFF && t.f == 0xF0 && t.pc == 0x0101)),
    ("A37 SCF", runs (placed ({ State.reset with f := 0xE0, pc := 0x0100 }) [0x37]) (fun t => t.f == 0x90 && t.pc == 0x0101)),
    ("A38 CCF", runs (placed ({ State.reset with f := 0xF0, pc := 0x0100 }) [0x3F]) (fun t => t.f == 0x80 && t.pc == 0x0101))] = [] := by
  decide +kernel

/-- Vectors X1 to X13 (those listed): 16-bit arithmetic (2.4). -/
theorem test_alu16 : failing [
    ("X1 ADD HL,BC", runs (placed ({ State.reset with h := 0xf, l := 0xff, b := 0x0, c := 0x1, f := 0xC0, pc := 0x0100 }) [0x09])
      (fun t => t.hl == 0x1000 && t.f == 0xE0 && t.pc == 0x0101)),
    ("X4 ADD HL,SP", runs (placed ({ State.reset with h := 0x0, l := 0x1, sp := 0xFFFF, f := 0x40, pc := 0x0100 }) [0x39])
      (fun t => t.hl == 0x0000 && t.f == 0x70 && t.pc == 0x0101)),
    ("X5 ADD HL,BC", runs (placed ({ State.reset with h := 0x12, l := 0x34, b := 0x0, c := 0x0, f := 0xF0, pc := 0x0100 }) [0x09])
      (fun t => t.hl == 0x1234 && t.f == 0xC0 && t.pc == 0x0101)),
    ("X6 INC BC", runs (placed ({ State.reset with b := 0xff, c := 0xff, f := 0xF0, pc := 0x0100 }) [0x03])
      (fun t => t.bc == 0x0000 && t.f == 0xF0 && t.pc == 0x0101)),
    ("X8 DEC HL", runs (placed ({ State.reset with h := 0x0, l := 0x0, pc := 0x0100 }) [0x2B])
      (fun t => t.hl == 0xFFFF && t.f == 0x00 && t.pc == 0x0101)),
    ("X10 ADD SP,e8 (+1)", runs (placed ({ State.reset with sp := 0xFFFF, f := 0xC0, pc := 0x0100 }) [0xE8, 0x01])
      (fun t => t.sp == 0x0000 && t.f == 0x30 && t.pc == 0x0102)),
    ("X13 ADD SP,e8 (-16)", runs (placed ({ State.reset with sp := 0xD010, pc := 0x0100 }) [0xE8, 0xF0])
      (fun t => t.sp == 0xD000 && t.f == 0x10 && t.pc == 0x0102))] = [] := by
  decide +kernel

/-- Vectors B1 to B32 (those listed): rotates, shifts and bit operations (2.5). -/
theorem test_rotates_bits : failing [
    ("B1 RLCA", runs (placed ({ State.reset with a := 0x00, f := 0xF0, pc := 0x0100 }) [0x07])
      (fun t => t.a == 0x00 && t.f == 0x00 && t.pc == 0x0101)),
    ("B2 RLCA", runs (placed ({ State.reset with a := 0x80, pc := 0x0100 }) [0x07]) (fun t => t.a == 0x01 && t.f == 0x10 && t.pc == 0x0101)),
    ("B3 RRCA", runs (placed ({ State.reset with a := 0x01, pc := 0x0100 }) [0x0F]) (fun t => t.a == 0x80 && t.f == 0x10 && t.pc == 0x0101)),
    ("B5 RLA", runs (placed ({ State.reset with a := 0x00, f := 0x10, pc := 0x0100 }) [0x17]) (fun t => t.a == 0x01 && t.f == 0x00 && t.pc == 0x0101)),
    ("B6 RRA", runs (placed ({ State.reset with a := 0x01, pc := 0x0100 }) [0x1F]) (fun t => t.a == 0x00 && t.f == 0x10 && t.pc == 0x0101)),
    ("B8 RLC A", runs (placed ({ State.reset with a := 0x00, f := 0x70, pc := 0x0100 }) [0xCB, 0x07])
      (fun t => t.a == 0x00 && t.f == 0x80 && t.pc == 0x0102)),
    ("B9 RLC (HL)", runs (placed (({ State.reset with h := 0xc0, l := 0x0, pc := 0x0100 }).write8 0xC000 0x80) [0xCB, 0x06])
      (fun t => t.read8 0xC000 == 0x01 && t.f == 0x10 && t.pc == 0x0102)),
    ("B10 RRC E", runs (placed ({ State.reset with e := 0x02, f := 0x10, pc := 0x0100 }) [0xCB, 0x0B])
      (fun t => t.e == 0x01 && t.f == 0x00 && t.pc == 0x0102)),
    ("B11 RL B", runs (placed ({ State.reset with b := 0x80, f := 0x10, pc := 0x0100 }) [0xCB, 0x10])
      (fun t => t.b == 0x01 && t.f == 0x10 && t.pc == 0x0102)),
    ("B12 RL B", runs (placed ({ State.reset with b := 0x80, pc := 0x0100 }) [0xCB, 0x10]) (fun t => t.b == 0x00 && t.f == 0x90 && t.pc == 0x0102)),
    ("B13 RR C", runs (placed ({ State.reset with c := 0x01, f := 0x10, pc := 0x0100 }) [0xCB, 0x19])
      (fun t => t.c == 0x80 && t.f == 0x10 && t.pc == 0x0102)),
    ("B14 SLA A", runs (placed ({ State.reset with a := 0xFF, pc := 0x0100 }) [0xCB, 0x27]) (fun t => t.a == 0xFE && t.f == 0x10 && t.pc == 0x0102)),
    ("B15 SLA (HL)", runs (placed ({ State.reset with h := 0xff, l := 0x44, pc := 0x0100 }) [0xCB, 0x26])
      (fun t => t.read8 0xFF44 == 0x90 && t.f == 0x10 && t.pc == 0x0102)),
    ("B16 SRA B", runs (placed ({ State.reset with b := 0x81, pc := 0x0100 }) [0xCB, 0x28]) (fun t => t.b == 0xC0 && t.f == 0x10 && t.pc == 0x0102)),
    ("B17 SRA B", runs (placed ({ State.reset with b := 0x01, pc := 0x0100 }) [0xCB, 0x28]) (fun t => t.b == 0x00 && t.f == 0x90 && t.pc == 0x0102)),
    ("B19 SWAP B", runs (placed ({ State.reset with b := 0x00, f := 0x10, pc := 0x0100 }) [0xCB, 0x30])
      (fun t => t.b == 0x00 && t.f == 0x80 && t.pc == 0x0102)),
    ("B20 SWAP (HL)", runs (placed (({ State.reset with h := 0xc0, l := 0x0, f := 0xF0, pc := 0x0100 }).write8 0xC000 0xA5) [0xCB, 0x36])
      (fun t => t.read8 0xC000 == 0x5A && t.f == 0x00 && t.pc == 0x0102)),
    ("B21 SRL A", runs (placed ({ State.reset with a := 0x01, pc := 0x0100 }) [0xCB, 0x3F]) (fun t => t.a == 0x00 && t.f == 0x90 && t.pc == 0x0102)),
    ("B22 SRL A", runs (placed ({ State.reset with a := 0x80, f := 0x10, pc := 0x0100 }) [0xCB, 0x3F])
      (fun t => t.a == 0x40 && t.f == 0x00 && t.pc == 0x0102)),
    ("B23 BIT 7,H", runs (placed ({ State.reset with h := 0x80, f := 0x10, pc := 0x0100 }) [0xCB, 0x7C])
      (fun t => t.h == 0x80 && t.f == 0x30 && t.pc == 0x0102)),
    ("B24 BIT 0,H", runs (placed ({ State.reset with h := 0x80, f := 0x10, pc := 0x0100 }) [0xCB, 0x44])
      (fun t => t.h == 0x80 && t.f == 0xB0 && t.pc == 0x0102)),
    ("B25 BIT 4,(HL)", runs (placed ({ State.reset with h := 0xff, l := 0x44, pc := 0x0100 }) [0xCB, 0x66]) (fun t => t.f == 0x20 && t.pc == 0x0102)),
    ("B26 BIT 3,(HL)", runs (placed ({ State.reset with h := 0xff, l := 0x44, f := 0x50, pc := 0x0100 }) [0xCB, 0x5E])
      (fun t => t.f == 0xB0 && t.pc == 0x0102)),
    ("B27 BIT 0,A", runs (placed ({ State.reset with a := 0xFE, f := 0x40, pc := 0x0100 }) [0xCB, 0x47])
      (fun t => t.a == 0xFE && t.f == 0xA0 && t.pc == 0x0102)),
    ("B28 RES 7,(HL)", runs (placed (({ State.reset with h := 0xc0, l := 0x0, f := 0xF0, pc := 0x0100 }).write8 0xC000 0xFF) [0xCB, 0xBE])
      (fun t => t.read8 0xC000 == 0x7F && t.f == 0xF0 && t.pc == 0x0102)),
    ("B29 RES 3,B", runs (placed ({ State.reset with b := 0x00, pc := 0x0100 }) [0xCB, 0x98]) (fun t => t.b == 0x00 && t.f == 0x00 && t.pc == 0x0102)),
    ("B30 SET 0,L", runs (placed ({ State.reset with l := 0x00, f := 0x80, pc := 0x0100 }) [0xCB, 0xC5])
      (fun t => t.l == 0x01 && t.f == 0x80 && t.pc == 0x0102)),
    ("B31 SET 4,(HL)", runs (placed ({ State.reset with h := 0xff, l := 0xf, pc := 0x0100 }) [0xCB, 0xE6])
      (fun t => t.read8 0xFF0F == 0x10 && t.pc == 0x0102)),
    ("B32 SET 7,A", runs (placed ({ State.reset with a := 0x80, pc := 0x0100 }) [0xCB, 0xFF]) (fun t => t.a == 0x80 && t.pc == 0x0102))] = [] := by
  decide +kernel

/-- Vectors C2 to C30 (those listed): control flow and the stack (2.6). -/
theorem test_control : failing [
    ("C2 JP Z,a16 (taken)", runs (placed ({ State.reset with f := 0x80, pc := 0x0100 }) [0xCA, 0x34, 0x12]) (fun t => t.pc == 0x1234)),
    ("C3 JP Z,a16 (not taken)", runs (placed ({ State.reset with f := 0x70, pc := 0x0100 }) [0xCA, 0x34, 0x12]) (fun t => t.pc == 0x0103)),
    ("C6 JP HL", runs (placed ({ State.reset with h := 0xff, l := 0xff, pc := 0x0100 }) [0xE9]) (fun t => t.pc == 0xFFFF)),
    ("C8 JR e8 (+127)", runs (placed ({ State.reset with pc := 0x0100 }) [0x18, 0x7F]) (fun t => t.pc == 0x0181)),
    ("C10 JR e8 (wrap down)", runs (placed ({ State.reset with pc := 0x0010 }) [0x18, 0x80]) (fun t => t.pc == 0xFF92)),
    ("C12 JR C,e8 (taken)", runs (placed ({ State.reset with f := 0x10, pc := 0x0100 }) [0x38, 0x02]) (fun t => t.pc == 0x0104)),
    ("C13 JR NC,e8 (not taken)", runs (placed ({ State.reset with f := 0x10, pc := 0x0100 }) [0x30, 0x02]) (fun t => t.pc == 0x0102)),
    ("C15 CALL a16 (SP=0)", runs (placed ({ State.reset with sp := 0x0000, pc := 0x0100 }) [0xCD, 0x00, 0x02])
      (fun t => t.pc == 0x0200 && t.sp == 0xFFFE && t.read8 0xFFFE == 0x03 && t.read8 0xFFFF == 0x01)),
    ("C17 CALL NZ,a16 (taken)", runs (placed ({ State.reset with sp := 0xD000, pc := 0x0100 }) [0xC4, 0x00, 0x02])
      (fun t => t.pc == 0x0200 && t.sp == 0xCFFE && t.read8 0xCFFE == 0x03 && t.read8 0xCFFF == 0x01)),
    ("C18 CALL Z,a16 (not taken)", runs (placed ({ State.reset with sp := 0xD000, pc := 0x0100 }) [0xCC, 0x00, 0x02])
      (fun t => t.pc == 0x0103 && t.sp == 0xD000 && t.read8 0xCFFE == 0x00 && t.read8 0xCFFF == 0x00)),
    ("C20 RET (SP=0xFFFF)", runs (placed
      ((({ State.reset with sp := 0xFFFF, pc := 0x0100 }).write8 0xFFFF 0x34).write8 0x0000 0x12) [0xC9])
      (fun t => t.pc == 0x1234 && t.sp == 0x0001)),
    ("C21 RET NC (taken)", runs (placed
      ((({ State.reset with sp := 0xCFFE, pc := 0x0100 }).write8 0xCFFE 0x03).write8 0xCFFF 0x01) [0xD0])
      (fun t => t.pc == 0x0103 && t.sp == 0xD000)),
    ("C22 RET C (not taken)", runs (placed
      ((({ State.reset with sp := 0xCFFE, pc := 0x0100 }).write8 0xCFFE 0x03).write8 0xCFFF 0x01) [0xD8])
      (fun t => t.pc == 0x0101 && t.sp == 0xCFFE)),
    ("C23 RETI", runs (placed
      ((({ State.reset with sp := 0xCFFE, pc := 0x0100 }).write8 0xCFFE 0x03).write8 0xCFFF 0x01) [0xD9])
      (fun t => t.pc == 0x0103 && t.sp == 0xD000 && t.ime == true)),
    ("C25 RST 38H", runs (placed ({ State.reset with sp := 0xD000, pc := 0xFFFF }) [0xFF])
      (fun t => t.pc == 0x0038 && t.sp == 0xCFFE && t.read8 0xCFFE == 0x00 && t.read8 0xCFFF == 0x00)),
    ("C26 PUSH AF", runs (placed ({ State.reset with sp := 0xD000, a := 0x12, f := 0xB0, pc := 0x0100 }) [0xF5])
      (fun t => t.sp == 0xCFFE && t.read8 0xCFFE == 0xB0 && t.read8 0xCFFF == 0x12 && t.pc == 0x0101)),
    ("C27 PUSH HL (onto 0xFF44)", runs (placed ({ State.reset with sp := 0xFF46, h := 0xbe, l := 0xef, pc := 0x0100 }) [0xE5])
      (fun t => t.sp == 0xFF44 && t.read8 0xFF44 == 0x90 && t.read8 0xFF45 == 0xBE && t.pc == 0x0101)),
    ("C28 POP HL (from 0xFF44)", runs (placed
      ((({ State.reset with sp := 0xFF44, pc := 0x0100 }).write8 0xFF44 0xEF).write8 0xFF45 0xBE) [0xE1])
      (fun t => t.hl == 0xBE90 && t.sp == 0xFF46 && t.pc == 0x0101)),
    ("C30 POP AF", runs (placed
      ((({ State.reset with sp := 0xCFFE, pc := 0x0100 }).write8 0xCFFE 0x5F).write8 0xCFFF 0xA0) [0xF1])
      (fun t => t.a == 0xA0 && t.f == 0x50 && t.sp == 0xD000 && t.pc == 0x0101))] = [] := by
  decide +kernel

/-- Vectors Y1 to Y16 (those listed): system instructions (2.7). -/
theorem test_system : failing [
    ("Y1 NOP", runs (placed ({ State.reset with f := 0xF0, pc := 0x0100 }) [0x00]) (fun t => t.pc == 0x0101 && t.f == 0xF0)),
    ("Y2 DI", runs (placed ({ State.reset with ime := true, pc := 0x0100 }) [0xF3]) (fun t => t.pc == 0x0101 && t.ime == false)),
    ("Y3 EI", runs (placed ({ State.reset with ime := false, pc := 0x0100 }) [0xFB]) (fun t => t.pc == 0x0101 && t.ime == true)),
    ("Y4 HALT", stops (placed ({ State.reset with ime := true, pc := 0x0100 }) [0x76]) (.unsupportedStop 0x76)),
    ("Y5 STOP", stops (placed ({ State.reset with pc := 0x0100 }) [0x10, 0x00]) (.unsupportedStop 0x10)),
    ("Y6 (unbound)", stops (placed ({ State.reset with sp := 0xD000, pc := 0x0100 }) [0xD3]) (.unknownPrimaryOpcode 0xD3)),
    ("Y16 (unbound)", stops (placed ({ State.reset with sp := 0xD000, pc := 0x0100 }) [0xFD]) (.unknownPrimaryOpcode 0xFD))] = [] := by
  decide +kernel

/-- Vectors I1 to I16 (those listed): polls (2.8). -/
theorem test_poll : failing [
    ("I1 poll", polled
      ((({ State.reset with ime := true, pc := 0x0200, sp := 0xD000 }).write8 0xFFFF 0x07).write8 0xFF0F 0x06) false
      (fun t => t.ime == false && t.read8 0xFF0F == 0x04 && t.pc == 0x0048 && t.sp == 0xCFFE && t.read8 t.sp == 0x00 && t.read8 (t.sp + 1) == 0x02)),
    ("I4 poll", polled
      ((({ State.reset with ime := true, pc := 0x0200, sp := 0xD000 }).write8 0xFFFF 0x10).write8 0xFF0F 0x00) true
      (fun t => t.ime == false && t.read8 0xFF0F == 0x00 && t.pc == 0x0060 && t.sp == 0xCFFE && t.read8 t.sp == 0x00 && t.read8 (t.sp + 1) == 0x02)),
    ("I5 poll", polled
      ((({ State.reset with ime := false, pc := 0x0200, sp := 0xD000 }).write8 0xFFFF 0x10).write8 0xFF0F 0x00) true
      (fun t => t.ime == false && t.read8 0xFF0F == 0x10 && t.pc == 0x0200 && t.sp == 0xD000 && t.read8 t.sp == 0x00 && t.read8 (t.sp + 1) == 0x00)),
    ("I7 poll", polled
      ((({ State.reset with ime := true, pc := 0x0200, sp := 0xD000 }).write8 0xFFFF 0x08).write8 0xFF0F 0x08) false
      (fun t => t.ime == false && t.read8 0xFF0F == 0x08 && t.pc == 0x0200 && t.sp == 0xD000 && t.read8 t.sp == 0x00 && t.read8 (t.sp + 1) == 0x00)),
    ("I8 poll", polled
      ((({ State.reset with ime := true, pc := 0x0200, sp := 0xD000, params := { Params.default with imeClearOnUndispatched := false } }).write8 0xFFFF 0x08).write8 0xFF0F 0x08) false
      (fun t => t.ime == true && t.read8 0xFF0F == 0x08 && t.pc == 0x0200 && t.sp == 0xD000 && t.read8 t.sp == 0x00 && t.read8 (t.sp + 1) == 0x00)),
    ("I9 poll", polled
      ((({ State.reset with ime := true, pc := 0x0200, sp := 0xD000 }).write8 0xFFFF 0x18).write8 0xFF0F 0x18) false
      (fun t => t.ime == false && t.read8 0xFF0F == 0x08 && t.pc == 0x0060 && t.sp == 0xCFFE && t.read8 t.sp == 0x00 && t.read8 (t.sp + 1) == 0x02)),
    ("I13 poll", polled
      ((({ State.reset with ime := true, pc := 0x0200, sp := 0xD000, enableRequested := true }).write8 0xFFFF 0x01).write8 0xFF0F 0x01) false
      (fun t => t.ime == true && t.read8 0xFF0F == 0x00 && t.pc == 0x0040 && t.sp == 0xCFFE && t.read8 t.sp == 0x00 && t.read8 (t.sp + 1) == 0x02)),
    ("I15 poll", polled
      ((({ State.reset with ime := false, pc := 0x0200, sp := 0xD000, enableRequested := true }).write8 0xFFFF 0x01).write8 0xFF0F 0x01) false
      (fun t => t.ime == true && t.read8 0xFF0F == 0x01 && t.pc == 0x0200 && t.sp == 0xD000 && t.read8 t.sp == 0x00 && t.read8 (t.sp + 1) == 0x00)),
    ("I16 poll", polled
      ((({ State.reset with ime := true, pc := 0x1234, sp := 0xFF11 }).write8 0xFFFF 0x02).write8 0xFF0F 0xFF) false
      (fun t => t.ime == false && t.read8 0xFF0F == 0x34 && t.pc == 0x0048 && t.sp == 0xFF0F && t.read8 t.sp == 0x34 && t.read8 (t.sp + 1) == 0x12)),
    ("I18 RETI, then the poll of the same step dispatches",
      runs (placed (((({ State.reset with pc := 0x0100, sp := 0xCFFE }).write16 0xCFFE 0x0234).write8 0xFFFF 1).write8 0xFF0F 1) [0xD9])
      (fun t => t.pc == 0x0040 && t.sp == 0xCFFE && t.read16 0xCFFE == 0x0234 && t.ime == false && t.read8 0xFF0F == 0)),
    ("I21 EI with IME set and an interrupt pending",
      runs (placed ((({ State.reset with pc := 0x0100, sp := 0xD000, ime := true }).write8 0xFFFF 1).write8 0xFF0F 1) [0xFB])
      (fun t => t.pc == 0x0040 && t.read16 t.sp == 0x0101 && t.ime == true && t.read8 0xFF0F == 0)),
    ("I23 HALT, no poll",
      stops (placed ((({ State.reset with pc := 0x0100, sp := 0xD000, ime := true }).write8 0xFFFF 1).write8 0xFF0F 1) [0x76])
      (.unsupportedStop 0x76))] = [] := by
  decide +kernel

/-- M3 to M9: 16-bit accesses across regions and the top, the end of the echo window, no mirror of work RAM, the scanline stub. -/
theorem test_memory : failing [
    ("M3", (State.reset.write16 0x7FFF 0xBBAA).read16 0x7FFF == 0xBBAA && (State.reset.write16 0x7FFF 0xBBAA).read8 0x8000 == 0xBB),
    ("M4", (State.reset.write16 0xFFFF 0xBBAA).read8 0x0000 == 0xBB && (State.reset.write16 0xFFFF 0xBBAA).read8 0xE000 == 0xBB),
    ("M5", ((State.reset.write8 0xEFFF 0x11).write8 0xF000 0x22).read8 0x0FFF == 0x11 &&
      ((State.reset.write8 0xEFFF 0x11).write8 0xF000 0x22).read8 0x1000 == 0),
    ("M7", ((State.reset.write8 0xFF43 5).write8 0xFF44 6).read16 0xFF43 == 0x9005 &&
      ((State.reset.write8 0xFF43 5).write8 0xFF44 6).read16 0xFF44 == 0x0090),
    ("M9", (State.reset.write8 0xD010 0x77).read8 0xE010 == 0 && (State.reset.write8 0xD010 0x77).read8 0xF010 == 0)] = [] := by
  decide +kernel

/-- S8: the header checksum, informative (70_reset_and_hazards.md R303). -/
theorem test_S8 : headerChecksum (List.replicate 0x150 0) = 0xE7 ∧
    headerChecksum (List.replicate 0x134 0 ++ [0x54, 0x45, 0x53, 0x54] ++ List.replicate 24 0) = 0xA7 := by
  decide +kernel

/-! ## Witnesses: for every obligation with hypotheses, states and operands that meet them

A statement whose only hypothesis is that an instruction stands in a list written out in it, or that an index is a small number, is
met by each entry of the list and each such index; the boundary ones are named here. -/

/-- The state most witnesses start from: a byte in memory, flags set, an instruction LD A,0x42 at PC. -/
def sample : State := placed { State.reset with pc := 0x0100, sp := 0xD000, f := 0xB0, b := 0xC0, h := 0xC1, l := 0x23 } [0x3E, 0x42]

theorem witness_DecodeOfEncodeGivesTheInstruction : WellFormed (.ldAD8 0x42) = true ∧ WellFormed .set7A = true := by decide

theorem witness_StepRunsTheDecodedInstruction : decode sample.fetchBytes = .ok (.ldAD8 0x42, [0]) := by
  rw [show sample.fetchBytes = [0x3E, 0x42, 0x00] by decide]
  rfl

theorem sample_runs : runs sample (fun t => t.a == 0x42) = true := by decide

theorem witness_EveryStepKeepsTheInvariant : Inv sample ∧ ∃ t, step sample = .next t :=
  ⟨⟨by unfold FlagsLowZero; decide, by decide, by unfold NoRequest; decide⟩,
    let ⟨t, h, _⟩ := runs_next sample_runs
    ⟨t, h⟩⟩

theorem witness_OnlyThirteenOpcodesEndARun :
    (placed State.reset [0x10]).read8 (placed State.reset [0x10]).pc ∈ stopOpcodes ∧
    (placed State.reset [0x76]).read8 (placed State.reset [0x76]).pc ∈ stopOpcodes ∧
    (placed State.reset [0xFD]).read8 (placed State.reset [0xFD]).pc ∈ unboundOpcodes ∧
    sample.read8 sample.pc ∉ stopOpcodes ∧ sample.read8 sample.pc ∉ unboundOpcodes := by
  decide

theorem witness_EveryStepCountsOneInstruction : ∃ t, step sample = .next t :=
  let ⟨t, h, _⟩ := runs_next sample_runs
  ⟨t, h⟩

theorem witness_StepsKeepParametersAndConsumeOneInput : ∃ t, step { sample with joyReq := [true, false] } = .next t :=
  let ⟨t, h, _⟩ := runs_next (s := { sample with joyReq := [true, false] }) (p := fun t => t.joyReq == [false]) (by decide)
  ⟨t, h⟩

/-- Each clause of the reset memory at both ends of its range. -/
theorem witness_ResetMemoryHoldsBootOverCart :
    (0x0000#16).toNat < 0x0100 ∧ (0x00FF#16).toNat < 0x0100 ∧
    (0x0100 ≤ (0x0100#16).toNat ∧ (0x0100#16).toNat < 0x8000) ∧ (0x0100 ≤ (0x7FFF#16).toNat ∧ (0x7FFF#16).toNat < 0x8000) ∧
    (0x8000 ≤ (0x8000#16).toNat ∧ (0x8000#16).toNat < 0xE000) ∧ (0xDFFF#16).toNat < 0xE000 ∧
    (0xE000 ≤ (0xE000#16).toNat ∧ (0xE000#16).toNat < 0xF000) ∧ (0xE000 ≤ (0xEFFF#16).toNat ∧ (0xEFFF#16).toNat < 0xF000) ∧
    (0xF000 ≤ (0xF000#16).toNat ∧ 0xF000#16 ≠ 0xFF44) ∧ (0xF000 ≤ (0xFFFF#16).toNat ∧ 0xFFFF#16 ≠ 0xFF44) ∧ 0xFF44#16 = 0xFF44 := by
  decide

/-- Each region at both ends. -/
theorem witness_EveryAddressIsInExactlyOneRegion : ∀ r ∈ [Region.cart, .vram, .eram, .wram, .echo, .oam, .io],
    regionOf (BitVec.ofNat 16 r.first) = r ∧ regionOf (BitVec.ofNat 16 r.last) = r := by
  decide

theorem witness_ReadAfterWriteOutsideTheEchoWindow : 
    (0x0000#16).toNat < 0xE000 ∧ (0xDFFF#16).toNat < 0xE000 ∧ 0xF000 ≤ (0xF000#16).toNat ∧ 0xF000 ≤ (0xFF44#16).toNat ∧
    0xF000 ≤ (0xFFFF#16).toNat := by
  decide

/-- The echo window's two ends: 0xE000 and 0xEFFF. -/
theorem witness_EchoWindowIsTheCartridgeRegion : 0 < 0x1000 ∧ 0x0FFF < 0x1000 ∧ BitVec.ofNat 16 (0xE000 + 0x0FFF) = 0xEFFF#16 := by
  decide

theorem witness_SixteenBitAccessesAreLittleEndianBytes :
    cellOf sample.params 0xC002 ≠ cellOf sample.params 0xC000 ∧ cellOf sample.params 0xC002 ≠ cellOf sample.params 0xC001 := by
  decide

theorem witness_PopAfterPushGivesTheValueBack : (sample.sp - 2 ≠ 0xFF44 ∧ sample.sp - 1 ≠ 0xFF44) ∧
    (State.reset.sp - 2 ≠ 0xFF44 ∧ State.reset.sp - 1 ≠ 0xFF44) := by
  decide

theorem witness_PairViewsShareStorageWithTheirHalves : StackPair.bc ≠ .af ∧ StackPair.af ≠ .hl := by decide

theorem witness_RotatesAndShiftsBitByBit : 0 < 8 ∧ 7 < 8 := by decide

/-- A register outside each exception list. -/
theorem witness_frames : Reg.b ∉ [Reg.a] ∧ Reg.a ∉ [Reg.h, .l] ∧ Reg.d ∉ slotRegs .e ∧ Reg.a ∉ slotRegs .indHl ∧ Reg.h ∉ pairRegs .sp ∧
    Reg.b ∉ stackPairRegs .af := by
  decide

theorem witness_SixteenBitLoads : Pair.hl ≠ .sp := by decide

theorem witness_IncrementAndDecrementOfASlot : Slot.a ≠ .indHl ∧ Slot.indHl = .indHl ∧
    slotStores sample .indHl = [0xC123] ∧ cellOf sample.params 0xFFFF ≠ cellOf sample.params 0xC123 := by
  decide

/-- DAA's four cases of the adjustment: both, low only, high only, none. -/
theorem witness_DecimalAdjustFollowsTheRule :
    let low (s : State) : Bool := s.flag .h || (!s.flag .n && decide (s.a.toNat % 16 > 9))
    let high (s : State) : Bool := s.flag .c || (!s.flag .n && decide (s.a.toNat > 0x99))
    let at_ (a f : Byte) : State := { State.reset with a := a, f := f }
    (low (at_ 0xAA 0x00) && high (at_ 0xAA 0x00)) = true ∧ (low (at_ 0x0F 0x60) && !high (at_ 0x0F 0x60)) = true ∧
    (!low (at_ 0xA0 0x00) && high (at_ 0xA0 0x00)) = true ∧ (!low (at_ 0x9A 0x40) && !high (at_ 0x9A 0x40)) = true := by
  decide

/-- The document's own operands: 45 and 38 (S3). -/
theorem witness_DecimalAdjustAfterBcdAddIsTheDecimalSum : 45 < 100 ∧ 38 < 100 ∧ 99 < 100 ∧
    ({ State.reset with a := 0x45 } : State).a = BitVec.ofNat 8 (45 / 10 * 16 + 45 % 10) := by
  decide

theorem witness_IncrementAndDecrementOfAPair : Pair.bc ≠ .sp ∧
    (decPairOf .bc, sample.getPair .bc - 1) ∈ [(incPairOf .bc, sample.getPair .bc + 1), (decPairOf .bc, sample.getPair .bc - 1)] :=
  ⟨by decide, by simp⟩

theorem witness_RotatesAndShiftsOfASlot : Slot.b ≠ .indHl ∧
    slotStores sample .indHl = [0xC123] ∧ cellOf sample.params 0xC124 ≠ cellOf sample.params 0xC123 := by
  decide

theorem witness_BitResetAndSetChangeOneBit : Slot.l ≠ .indHl ∧ (resOf 3 .l, false) ∈ [(resOf 3 .l, false), (setOf 3 .l, true)] :=
  ⟨by decide, by simp⟩

/-- The list hypotheses of the grouped statements, at their last entries. -/
theorem witness_listed :
    (Instr.ldAIndC, BitVec.ofNat 16 (0xFF00 + sample.c.toNat), 1#16) ∈ [(Instr.ldAIndBc, sample.bc, 1#16),
      (.ldAIndC, BitVec.ofNat 16 (0xFF00 + sample.c.toNat), 1)] ∧
    (Instr.ldIndCA, highPage sample.c, 1#16) ∈ [(Instr.ldIndBcA, sample.bc, 1#16), (.ldIndCA, highPage sample.c, 1)] ∧
    (Instr.ldAIndHlDec, sample.hl - 1) ∈ [(Instr.ldAIndHlInc, sample.hl + 1), (.ldAIndHlDec, sample.hl - 1)] ∧
    (Instr.ccf, !sample.flag .c) ∈ [(Instr.scf, true), (.ccf, !sample.flag .c)] ∧
    (Instr.rrAcc, RotOp.rr) ∈ [(Instr.rlcAcc, RotOp.rlc), (.rrAcc, .rr)] ∧
    (Instr.jpHl, sample.hl) ∈ [(Instr.jpA16 0x4000, 0x4000#16), (.jpHl, sample.hl)] ∧
    (rstOf 7, BitVec.ofNat 16 (8 * 7), sample.pc + 1) ∈
      [(Instr.callA16 0x4000, 0x4000#16, sample.pc + 3), (rstOf 7, BitVec.ofNat 16 (8 * 7), sample.pc + 1)] ∧
    (aluImmOf .add 0x38, 0x38#8, 2#16) ∈ [(aluOf .add .b, sample.getSlot .b, 1#16), (aluImmOf .add 0x38, 0x38#8, 2)] := by
  refine ⟨by simp, by simp, by simp, by simp, by simp, by simp, by simp, by simp⟩

/-- Each condition taken and not taken: Z and C both set, and both clear. -/
theorem witness_ConditionalCalls : (sample.flag .z = true ∧ sample.flag .c = true) ∧
    (State.reset.flag .z = false ∧ State.reset.flag .c = false) := by
  decide

theorem witness_PopLoadsThePair : StackPair.de ≠ .af ∧ Reg.a ∉ stackPairRegs .de := by decide

theorem witness_StopsAndUnboundOpcodesAreFatal :
    (Instr.halt, 0x76#8) ∈ [(Instr.stop, 0x10#8), (.halt, 0x76)] ∧ (Instr.undefinedFd, 0xFD#8) ∈ [(Instr.undefinedD3, 0xD3#8), (.undefinedFd, 0xFD)] := by
  refine ⟨by simp, by simp⟩

theorem witness_PollOrsTheJoypadRequestIntoIf : (0xFFFF#16) ≠ 0xFF0F ∧ (0xFF0E#16) ≠ 0xFF0F := by decide

/-- A state with IME set and given IE and IF. -/
def pending (ie rq : Byte) : State := (({ State.reset with ime := true, sp := 0xD000, pc := 0x0200 }).write8 0xFFFF ie).write8 0xFF0F rq

/-- Every class as the highest pending one, with every lower class pending too. -/
theorem witness_PollDispatchesTheHighestPendingClass :
    ∀ x ∈ [(IrqClass.vblank, 0x1F#8), (.lcd, 0x1E), (.timer, 0x1C), (.joypad, 0x18)],
      (pending 0xFF x.2).ime = true ∧ (((pending 0xFF x.2).read8 0xFFFF &&& (pending 0xFF x.2).read8 0xFF0F).getLsbD x.1.bit) = true ∧
      (∀ j ∈ [IrqClass.vblank, .lcd, .timer, .joypad], j.bit < x.1.bit →
        ((pending 0xFF x.2).read8 0xFFFF &&& (pending 0xFF x.2).read8 0xFF0F).getLsbD j.bit = false) ∧
      (pending 0xFF x.2).sp - 2 ≠ 0xFF0F ∧ (pending 0xFF x.2).sp - 1 ≠ 0xFF0F := by
  decide

/-- The three clauses: IME clear; nothing enabled pending; only a bit that is never dispatched. -/
theorem witness_PollWithNothingToDispatch : State.reset.ime = false ∧
    (pending 0x04 0x03).read8 0xFFFF &&& (pending 0x04 0x03).read8 0xFF0F = 0 ∧
    (pending 0xE8 0xE8).ime = true ∧ (pending 0xE8 0xE8).read8 0xFFFF &&& (pending 0xE8 0xE8).read8 0xFF0F ≠ 0 ∧
    (∀ j ∈ [IrqClass.vblank, .lcd, .timer, .joypad],
      ((pending 0xE8 0xE8).read8 0xFFFF &&& (pending 0xE8 0xE8).read8 0xFF0F).getLsbD j.bit = false) := by
  decide

/-- EI at PC and then NOP, an interrupt enabled and pending: with IME clear, and the class due after the next instruction; with IME set
and the class due at once. -/
theorem witness_EnableCountsFromTheNextPollOn :
    let s := placed { pending 0x01 0x01 with ime := false } [0xFB, 0x00]
    let s' := placed (pending 0x01 0x01) [0xFB]
    (s.read8 s.pc = 0xFB ∧ s.disableRequested = false ∧ s.ime = false ∧
      runs s (fun t => match exec t.fetchInstr { t with joyReq := t.joyReq.tail } with
        | .next v => (triggerWith v (t.joyReq.headD false)).getLsbD IrqClass.vblank.bit
        | .fault _ => false
        | .refused _ => false) = true) ∧
    (s'.read8 s'.pc = 0xFB ∧ s'.disableRequested = false ∧ s'.ime = true ∧ Due s' (s'.joyReq.headD false) .vblank) := by
  refine ⟨by decide, by decide, by decide, by decide, by decide, ?_⟩
  intro j hj
  cases j <;> exact absurd hj (by decide)

/-- DI at PC with IME set and LCD due; the same with the joypad requested in that very step and nothing else pending; and IME clear. -/
theorem witness_DisableStillLetsOneInterruptThrough :
    let s := placed (pending 0x03 0x02) [0xF3]
    let s' := { placed (pending 0x10 0x00) [0xF3] with joyReq := [true] }
    (s.read8 s.pc = 0xF3 ∧ s.ime = true ∧ Due s (s.joyReq.headD false) .lcd) ∧
    (s'.read8 s'.pc = 0xF3 ∧ s'.ime = true ∧ Due s' (s'.joyReq.headD false) .joypad) ∧
    (placed State.reset [0xF3]).read8 (placed State.reset [0xF3]).pc = 0xF3 ∧ (placed State.reset [0xF3]).ime = false := by
  refine ⟨⟨by decide, by decide, by decide, ?_⟩, ⟨by decide, by decide, by decide, ?_⟩, by decide, by decide⟩ <;>
    (intro j _; cases j <;> first | decide | (exact absurd ‹_› (by decide)))

end Sys2Proof.Tests
end

section
/-! The four flags as bits of F (10_state.md R13, R14). -/

namespace Sys2Proof.Proofs.State
open Sys2Proof Sys2Proof.Machine

/-- The reading half of 10_state.md R14. -/
theorem flags_eq_top_bits_of_f (s : State) :
    s.flag .z = s.f.getLsbD 7 ∧ s.flag .n = s.f.getLsbD 6 ∧ s.flag .h = s.f.getLsbD 5 ∧ s.flag .c = s.f.getLsbD 4 :=
  ⟨rfl, rfl, rfl, rfl⟩

/-- The frame of a flag write: F is the only field it can change. -/
theorem setFlag_eq_update_f (s : State) (k : Flag) (v : Bool) :
    s.setFlag k v = { s with f := (s.setFlag k v).f } := rfl

/-- Settles O20: the reading half by the flags' positions in F; for a write, the flag read back, F's low nibble and the frame each by its
own law. -/
theorem flagsAreTheTopBitsOfF : Obligations.FlagsAreTheTopBitsOfF := by
  unfold Obligations.FlagsAreTheTopBitsOfF
  refine ⟨flags_eq_top_bits_of_f, fun s k j v => ⟨?flag, ?low, ?frame⟩⟩
  case flag => exact State.flag_setFlag s k j v
  case low => exact State.setFlag_low s k v
  case frame => exact setFlag_eq_update_f s k v

end Sys2Proof.Proofs.State
end

section
/-! The 8-bit primitives against the formulas of 42_alu_8bit.md (R140 to R144): one lemma for each output that the formula determines. -/

namespace Sys2Proof.Proofs.Alu8
open Sys2Proof Sys2Proof.Machine

/-- The document masks the low nibble out where the model takes a remainder. -/
theorem toNat_lowNibble (v : Byte) : (v &&& 0xF).toNat = v.toNat % 16 := by
  rw [BitVec.toNat_and]
  exact Nat.and_two_pow_sub_one_eq_mod v.toNat 4

/-! ### `add8` -/

theorem add8_r_toNat (a b : Byte) (cin : Bool) :
    (add8 a b cin).r.toNat = (a.toNat + b.toNat + cin.toNat) % 256 :=
  BitVec.toNat_ofNat _ _

theorem add8_z_iff (a b : Byte) (cin : Bool) : (add8 a b cin).z = true ↔ (add8 a b cin).r = 0 := beq_iff_eq

theorem add8_h_iff (a b : Byte) (cin : Bool) :
    (add8 a b cin).h = true ↔ (a &&& 0xF).toNat + (b &&& 0xF).toNat + cin.toNat > 0xF := by
  rw [toNat_lowNibble, toNat_lowNibble]
  exact decide_eq_true_iff

theorem add8_c_iff (a b : Byte) (cin : Bool) : (add8 a b cin).c = true ↔ a.toNat + b.toNat + cin.toNat > 0xFF :=
  decide_eq_true_iff

/-- Settles O21, output by output. -/
theorem add8MeetsTheDocumentsFormulas : Obligations.Add8MeetsTheDocumentsFormulas := by
  unfold Obligations.Add8MeetsTheDocumentsFormulas
  exact fun a b cin =>
    ⟨add8_r_toNat a b cin, add8_z_iff a b cin, rfl, add8_h_iff a b cin, add8_c_iff a b cin⟩

/-! ### `sub8` -/

theorem sub8_r_toNat (a b : Byte) (cin : Bool) :
    (sub8 a b cin).r.toNat = (a.toNat + 0x200 - b.toNat - cin.toNat) % 256 :=
  BitVec.toNat_ofNat _ _

/-- The 0x200 that the model adds is a multiple of 256 and exceeds every `b + cin`, so its natural-number subtraction never truncates. -/
theorem sub8_r_eq_emod (a b : Byte) (cin : Bool) :
    ((sub8 a b cin).r.toNat : Int) = ((a.toNat : Int) - (b.toNat : Int) - (cin.toNat : Int)) % 256 := by
  have hb : b.toNat < 256 := b.isLt
  have hcin : cin.toNat ≤ 1 := Bool.toNat_le cin
  rw [sub8_r_toNat]
  omega

theorem sub8_z_iff (a b : Byte) (cin : Bool) : (sub8 a b cin).z = true ↔ (sub8 a b cin).r = 0 := beq_iff_eq

theorem sub8_h_iff (a b : Byte) (cin : Bool) :
    (sub8 a b cin).h = true ↔ (a &&& 0xF).toNat < (b &&& 0xF).toNat + cin.toNat := by
  rw [toNat_lowNibble, toNat_lowNibble]
  exact decide_eq_true_iff

theorem sub8_c_iff (a b : Byte) (cin : Bool) : (sub8 a b cin).c = true ↔ a.toNat < b.toNat + cin.toNat :=
  decide_eq_true_iff

/-- C is the borrow (42_alu_8bit.md R141). -/
theorem sub8_c_iff_difference_neg (a b : Byte) (cin : Bool) :
    (sub8 a b cin).c = true ↔ (a.toNat : Int) - (b.toNat : Int) - (cin.toNat : Int) < 0 := by
  rw [sub8_c_iff]
  omega

/-- Settles O22, output by output; C by the comparison and by the sign of the true difference. -/
theorem sub8MeetsTheDocumentsFormulas : Obligations.Sub8MeetsTheDocumentsFormulas := by
  unfold Obligations.Sub8MeetsTheDocumentsFormulas
  exact fun a b cin =>
    ⟨sub8_r_eq_emod a b cin, sub8_z_iff a b cin, rfl, sub8_h_iff a b cin, sub8_c_iff a b cin,
      sub8_c_iff_difference_neg a b cin⟩

/-! ### `and8`, `or8`, `xor8` -/

theorem and8_r_getLsbD (a b : Byte) (j : Nat) : (and8 a b).r.getLsbD j = (a.getLsbD j && b.getLsbD j) :=
  BitVec.getLsbD_and

theorem or8_r_getLsbD (a b : Byte) (j : Nat) : (or8 a b).r.getLsbD j = (a.getLsbD j || b.getLsbD j) :=
  BitVec.getLsbD_or

theorem xor8_r_getLsbD (a b : Byte) (j : Nat) : (xor8 a b).r.getLsbD j = (a.getLsbD j ^^ b.getLsbD j) :=
  BitVec.getLsbD_xor

theorem and8_z_iff (a b : Byte) : (and8 a b).z = true ↔ (and8 a b).r = 0 := beq_iff_eq

theorem or8_z_iff (a b : Byte) : (or8 a b).z = true ↔ (or8 a b).r = 0 := beq_iff_eq

theorem xor8_z_iff (a b : Byte) : (xor8 a b).z = true ↔ (xor8 a b).r = 0 := beq_iff_eq

/-- Settles O23: the result bit by bit and Z from the result; the other three flags are constants of each primitive. -/
theorem logicPrimitivesMeetTheDocumentsFormulas : Obligations.LogicPrimitivesMeetTheDocumentsFormulas := by
  unfold Obligations.LogicPrimitivesMeetTheDocumentsFormulas
  exact fun a b =>
    ⟨and8_r_getLsbD a b, and8_z_iff a b, rfl, rfl, rfl,
      or8_r_getLsbD a b, or8_z_iff a b, rfl, rfl, rfl,
      xor8_r_getLsbD a b, xor8_z_iff a b, rfl, rfl, rfl⟩

end Sys2Proof.Proofs.Alu8
end

section
/-! The encoding (30_encoding.md): decoding undoes `encode`, `encode` undoes decoding, and the grid of opcodes agrees with the field
patterns. -/

namespace Sys2Proof.Proofs.Encoding
open Sys2Proof Sys2Proof.Machine

/-! ### From an instruction to its bytes and back -/

/-- The bytes of a list, and any bytes the list does not have, decode to the instruction. -/
def DecodesTo (i : Instr) : List Byte → Prop
  | [op] => ∀ b1 b2, decodeBytes op b1 b2 = i
  | [op, b1] => ∀ b2, decodeBytes op b1 b2 = i
  | [op, b1, b2] => decodeBytes op b1 b2 = i
  | _ => False

/-- Every instruction decodes from its own bytes: by how many bytes it has, one, two, or three with a 16-bit operand. -/
theorem encode_decodesTo (i : Instr) (h : WellFormed i = true) : DecodesTo i (encode i) := by
  cases i
  case prefixCb xop => exact absurd h (by simp [WellFormed])
  all_goals first
    | exact fun _ _ => rfl
    | exact fun _ => rfl
    | exact congrArg _ (ofBytes_hiByte_loByte _)

/-- 30_encoding.md R71, for all instructions at once. -/
theorem encode_length (i : Instr) : Laws.Encoding.Statement i := by
  cases i <;> rfl

/-- Bytes that are as many as their first one calls for decode on their own, whatever follows them. -/
theorem decode_append {i : Instr} {op : Byte} {args : List Byte} (rest : List Byte) (hlen : args.length + 1 = instrLength op)
    (hdec : decodeBytes op ((args ++ rest).getD 0 0) ((args ++ rest).getD 1 0) = i) :
    decode (op :: args ++ rest) = .ok (i, rest) := by
  have hcut : ¬ (args ++ rest).length + 1 < instrLength op := by rw [List.length_append]; omega
  have hdrop : (args ++ rest).drop (instrLength op - 1) = rest := by
    rw [← hlen, Nat.add_sub_cancel, List.drop_left]
  rw [List.cons_append, decode, if_neg hcut, hdec, hdrop]

/-- Settles O1: by the number of bytes, each list decodes to the instruction whatever follows it. -/
theorem decodeOfEncodeGivesTheInstruction : Obligations.DecodeOfEncodeGivesTheInstruction := by
  unfold Obligations.DecodeOfEncodeGivesTheInstruction
  intro i rest h
  have hlen := encode_length i
  have hdec := encode_decodesTo i h
  unfold Laws.Encoding.Statement at hlen
  match encode i, hlen, hdec with
  | [_], hlen, hdec => exact decode_append rest hlen (hdec _ _)
  | [_, _], hlen, hdec => exact decode_append rest hlen (hdec _)
  | [_, _, _], hlen, hdec => exact decode_append rest hlen hdec

/-! ### From bytes to an instruction and back -/

/-- What holds in every row and column of an opcode grid holds of every byte. -/
theorem forall_byte {P : Byte → Prop} (h : ∀ row col : Fin 16, P (BitVec.ofNat 8 (16 * row.val + col.val))) (v : Byte) : P v := by
  have hv : v.toNat < 256 := v.isLt
  have e : BitVec.ofNat 8 (16 * (v.toNat / 16) + v.toNat % 16) = v := by
    rw [Nat.div_add_mod, BitVec.ofNat_toNat, BitVec.setWidth_eq]
  rw [← e]
  exact h ⟨v.toNat / 16, by omega⟩ ⟨v.toNat % 16, by omega⟩

/-- A primary opcode with the operand its length calls for (30_encoding.md R71, R77, R78). -/
def operandBytes (op b : Byte) (w : Word) : List Byte :=
  if op ∈ twoByteOpcodes then [op, b] else if op ∈ threeByteOpcodes then [op, loByte w, hiByte w] else [op]

theorem operandBytes_eq_take (op b1 b2 : Byte) : operandBytes op b1 (ofBytes b2 b1) = [op, b1, b2].take (instrLength op) := by
  unfold operandBytes instrLength
  split
  · rfl
  · split
    · rw [loByte_ofBytes, hiByte_ofBytes]; rfl
    · rfl

/-- Every cell of the grid spells its own opcode. -/
theorem encode_decodePrimary (op b : Byte) (w : Word) : encode (decodePrimary op b w) = operandBytes op b w := by
  induction op using forall_byte with
  | h row col => fin_cases row <;> fin_cases col <;> rfl

/-- The escape's cell is the only one that is no instruction of its own. -/
theorem wellFormed_decodePrimary (op b : Byte) (w : Word) : WellFormed (decodePrimary op b w) = (op != 0xCB) := by
  induction op using forall_byte with
  | h row col => fin_cases row <;> fin_cases col <;> rfl

theorem encode_decodeExtended (xop : Byte) : encode (decodeExtended xop) = [0xCB, xop] := by
  revert xop
  decide +kernel

theorem wellFormed_decodeExtended (xop : Byte) : WellFormed (decodeExtended xop) = true := by
  revert xop
  decide +kernel

/-- Settles O2: after the escape byte 0xCB by the extended table, else by the primary grid. -/
theorem encodeOfDecodedBytesGivesTheBytes : Obligations.EncodeOfDecodedBytesGivesTheBytes := by
  unfold Obligations.EncodeOfDecodedBytesGivesTheBytes
  intro b0 b1 b2
  unfold decodeBytes
  split
  case isTrue h =>
    subst h
    exact ⟨wellFormed_decodeExtended b1, encode_decodeExtended b1⟩
  case isFalse h =>
    refine ⟨?_, ?_⟩
    · rw [wellFormed_decodePrimary, bne_iff_ne]
      exact h
    · rw [encode_decodePrimary, operandBytes_eq_take]

/-! ### The grid and the patterns -/

/-- Settles O4: family by family, each choice of fields is one cell of the grid. -/
theorem opcodeGridAgreesWithTheFieldPatterns : Obligations.OpcodeGridAgreesWithTheFieldPatterns := by
  unfold Obligations.OpcodeGridAgreesWithTheFieldPatterns
  refine ⟨?ld, ?alu, ?aluImm, ?slot, ?pair, ?stackPair, ?cond, ?rst, ?rot, ?bit⟩
  case ld => intro y z b w; cases y <;> cases z <;> rfl
  case alu => intro y z b w; cases y <;> cases z <;> rfl
  case aluImm => intro y b w; cases y <;> rfl
  case slot => intro y b w; cases y <;> exact ⟨rfl, rfl, rfl⟩
  case pair => intro p b w; cases p <;> exact ⟨rfl, rfl, rfl, rfl⟩
  case stackPair => intro p b w; cases p <;> exact ⟨rfl, rfl⟩
  case cond => intro cc b w; cases cc <;> exact ⟨rfl, rfl, rfl, rfl⟩
  case rst => intro t b w; fin_cases t <;> rfl
  case rot => intro op z; cases op <;> cases z <;> rfl
  case bit => intro k z; fin_cases k <;> cases z <;> exact ⟨rfl, rfl, rfl⟩

/-- Settles O3, word by word. -/
theorem sampleWordsDecodeAsTheSpecWritesThem : Obligations.SampleWordsDecodeAsTheSpecWritesThem := by
  unfold Obligations.SampleWordsDecodeAsTheSpecWritesThem
  exact ⟨rfl, rfl, rfl, rfl, rfl, rfl, rfl, rfl, rfl, rfl, rfl, rfl, rfl, rfl⟩

end Sys2Proof.Proofs.Encoding
end

section
/-! What every step keeps and counts, and which opcodes end a run (00_scope.md section 5, 60_exceptions.md, 70_reset_and_hazards.md). -/

namespace Sys2Proof.Proofs.Steps
open Sys2Proof Sys2Proof.Machine

/-! ### Instructions that complete, and instructions that fault -/

/-- The fatal error an instruction raises, whatever the state (46_system.md R251, R252, R256). -/
def faultOf (i : Instr) : Option Fault :=
  match formOf i with
  | .stop op => some (.unsupportedStop op)
  | .unbound op => some (.unknownPrimaryOpcode op)
  | _ => none

theorem exec_of_faultOf_some {i : Instr} {r : Fault} (h : faultOf i = some r) (s : State) : exec i s = .fault r := by
  rw [exec_eq_run]
  unfold faultOf at h
  split at h
  · next hf => rw [hf, ← Option.some.inj h]; rfl
  · next hf => rw [hf, ← Option.some.inj h]; rfl
  · exact nomatch h

theorem exec_of_faultOf_none {i : Instr} (h : faultOf i = none) (s : State) : ∃ v, exec i s = .next v := by
  rw [exec_eq_run]
  unfold faultOf at h
  cases hf : formOf i
  case stop => rw [hf] at h; exact nomatch h
  case unbound => rw [hf] at h; exact nomatch h
  all_goals exact ⟨_, rfl⟩

/-! ### The step, taken apart -/

/-- The state an instruction runs in: the input of its step is off the list (log 1). -/
def afterInput (s : State) : State := { s with joyReq := s.joyReq.tail }

/-- What a step makes of its instruction's outcome: count and poll, or end the run. -/
def finish (s : State) : Host.Outcome State Fault Refusal → Host.Outcome State Fault Refusal
  | .next v => .next ((v.count (s.read8 s.pc)).poll (s.joyReq.headD false))
  | .fault r => .fault r
  | .refused r => .refused r

theorem step_eq_finish (s : State) : step s = finish s (exec s.fetchInstr (afterInput s)) := rfl

theorem step_of_exec_next {s v : State} (h : exec s.fetchInstr (afterInput s) = .next v) :
    step s = .next ((v.count (s.read8 s.pc)).poll (s.joyReq.headD false)) := by
  rw [step_eq_finish, h]; rfl

/-- What a step that answers a state has done. -/
theorem exists_exec_of_step {s t : State} (h : step s = .next t) :
    ∃ v, exec s.fetchInstr (afterInput s) = .next v ∧ t = (v.count (s.read8 s.pc)).poll (s.joyReq.headD false) := by
  rw [step_eq_finish] at h
  cases hv : exec s.fetchInstr (afterInput s) with
  | next v =>
    rw [hv] at h
    injection h with h
    exact ⟨v, rfl, h.symm⟩
  | fault r => rw [hv] at h; exact nomatch h
  | refused r => rw [hv] at h; exact nomatch h

/-! ### The second step of the poll, case by case (60_exceptions.md R272, R278) -/

theorem pollDispatch_of_ime_clear {s : State} (h : s.ime = false) : s.pollDispatch = s :=
  if_neg (by rw [h, Bool.false_and]; decide)

theorem pollDispatch_of_trigger_zero {s : State} (h : s.trigger = 0) : s.pollDispatch = s :=
  if_neg (by rw [h, Bool.and_eq_true]; exact fun hc => absurd hc.2 (by decide))

theorem trigger_ne_zero_of_firstClass {v : Byte} {k : IrqClass} (h : firstClass v = some k) : v ≠ 0 := by
  rintro rfl
  exact absurd h (by cases k <;> decide)

theorem pollDispatch_of_firstClass_some {s : State} {k : IrqClass} (hime : s.ime = true) (h : firstClass s.trigger = some k) :
    s.pollDispatch = s.enterInterrupt k := by
  unfold State.pollDispatch
  rw [if_pos (by rw [hime, Bool.true_and, bne_iff_ne]; exact trigger_ne_zero_of_firstClass h), h]

theorem pollDispatch_of_firstClass_none {s : State} (hime : s.ime = true) (ht : s.trigger ≠ 0) (h : firstClass s.trigger = none) :
    s.pollDispatch = { s with ime := !s.params.imeClearOnUndispatched } := by
  unfold State.pollDispatch
  rw [if_pos (by rw [hime, Bool.true_and, bne_iff_ne]; exact ht), h]
  dsimp only
  split
  · next hp => rw [hp]; rfl
  · next hp => rw [Bool.eq_false_of_not_eq_true hp, Bool.not_false, ← hime]

/-! ### The third step of the poll -/

theorem pollRequests_eq (s : State) : s.pollRequests = { s with
    ime := if s.disableRequested then false else if s.enableRequested then true else s.ime
    enableRequested := false
    disableRequested := false } := by
  obtain ⟨a, f, b, c, d, e, h, l, sp, pc, ime, en, dis, ic, tc, mem, joy, p⟩ := s
  cases en <;> cases dis <;> rfl

/-- Settles O58: the poll's definition is its three steps; the third by the two requests. -/
theorem pollAppliesTheRequestsLast : Obligations.PollAppliesTheRequestsLast := by
  unfold Obligations.PollAppliesTheRequestsLast
  exact ⟨fun _ _ => rfl, pollRequests_eq⟩

/-- No request outlasts a poll (60_exceptions.md R275). -/
theorem noRequest_poll (s : State) (joy : Bool) : NoRequest (s.poll joy) := by
  unfold State.poll
  rw [pollRequests_eq]
  exact ⟨rfl, rfl⟩

/-! ### What every step keeps -/

/-- A completed step keeps what instructions and polls keep, but for the one count in between. -/
theorem keeps_of_step {s t : State} (h : step s = .next t) :
    ∃ v, Keeps (afterInput s) v ∧ Keeps (v.count (s.read8 s.pc)) t ∧ NoRequest t := by
  obtain ⟨v, hv, rfl⟩ := exists_exec_of_step h
  exact ⟨v, exec_keeps _ _ _ hv, State.keeps_poll _ _, noRequest_poll _ _⟩

/-- Settles O6: the instruction and the poll keep F's low nibble and the memory list, and the poll clears both requests. -/
theorem everyStepKeepsTheInvariant : Obligations.EveryStepKeepsTheInvariant := by
  unfold Obligations.EveryStepKeepsTheInvariant
  intro s t hinv hstep
  obtain ⟨hlow, hwf, -⟩ := hinv
  obtain ⟨v, hexec, hpoll, hreq⟩ := keeps_of_step hstep
  exact ⟨hpoll.low (hexec.low hlow), hpoll.wf (hexec.wf hwf), hreq⟩

/-- Settles O9: the count is the step's own; the instruction and the poll leave both counters alone. -/
theorem everyStepCountsOneInstruction : Obligations.EveryStepCountsOneInstruction := by
  unfold Obligations.EveryStepCountsOneInstruction
  intro s t hstep
  obtain ⟨v, hexec, hpoll, -⟩ := keeps_of_step hstep
  constructor
  · rw [hpoll.instrCount, State.count_instrCount, hexec.instrCount]; rfl
  · rw [hpoll.tickCount, State.count_tickCount, hexec.tickCount]; rfl

/-- Settles O11: the step takes one input off the list; the instruction and the poll leave inputs and parameters alone. -/
theorem stepsKeepParametersAndConsumeOneInput : Obligations.StepsKeepParametersAndConsumeOneInput := by
  unfold Obligations.StepsKeepParametersAndConsumeOneInput
  intro s t hstep
  obtain ⟨v, hexec, hpoll, -⟩ := keeps_of_step hstep
  exact ⟨hpoll.params.trans hexec.params, hpoll.joyReq.trans hexec.joyReq⟩

/-! ### The opcode decides -/

/-- The fatal error an opcode raises (60_exceptions.md R262, R264). -/
def opcodeFault (op : Byte) : Option Fault :=
  if op ∈ stopOpcodes then some (.unsupportedStop op)
  else if op ∈ unboundOpcodes then some (.unknownPrimaryOpcode op)
  else none

theorem faultOf_decodePrimary (op b : Byte) (w : Word) : faultOf (decodePrimary op b w) = opcodeFault op := by
  induction op using Encoding.forall_byte with
  | h row col => fin_cases row <;> fin_cases col <;> rfl

/-- The extended table is total (60_exceptions.md R263). -/
theorem faultOf_decodeExtended (xop : Byte) : faultOf (decodeExtended xop) = none := by
  revert xop
  decide +kernel

theorem faultOf_decodeBytes (b0 b1 b2 : Byte) : faultOf (decodeBytes b0 b1 b2) = opcodeFault b0 := by
  unfold decodeBytes
  split
  · next h => rw [faultOf_decodeExtended, h]; rfl
  · exact faultOf_decodePrimary _ _ _

theorem faultOf_fetchInstr (s : State) : faultOf s.fetchInstr = opcodeFault (s.read8 s.pc) := faultOf_decodeBytes _ _ _

theorem step_of_opcodeFault_some {s : State} {r : Fault} (h : opcodeFault (s.read8 s.pc) = some r) : step s = .fault r := by
  rw [step_eq_finish, exec_of_faultOf_some ((faultOf_fetchInstr s).trans h)]
  rfl

theorem step_of_opcodeFault_none {s : State} (h : opcodeFault (s.read8 s.pc) = none) : ∃ t, step s = .next t := by
  obtain ⟨v, hv⟩ := exec_of_faultOf_none ((faultOf_fetchInstr s).trans h) (afterInput s)
  exact ⟨_, step_of_exec_next hv⟩

/-- No opcode is in both lists. -/
theorem unbound_not_stop {op : Byte} (h : op ∈ unboundOpcodes) : op ∉ stopOpcodes := by
  revert op
  decide

/-- Settles O8: the opcode at PC alone says which fault the instruction raises, if any. -/
theorem onlyThirteenOpcodesEndARun : Obligations.OnlyThirteenOpcodesEndARun := by
  unfold Obligations.OnlyThirteenOpcodesEndARun
  intro s
  refine ⟨fun hstop => ?_, fun hunb => ?_, fun hstop hunb => ?_⟩
  · exact step_of_opcodeFault_some (if_pos hstop)
  · exact step_of_opcodeFault_some ((if_neg (unbound_not_stop hunb)).trans (if_pos hunb))
  · exact step_of_opcodeFault_none ((if_neg hstop).trans (if_neg hunb))

/-! ### The instruction at PC -/

/-- No instruction is longer than three bytes (30_encoding.md R70). -/
theorem instrLength_le (op : Byte) : instrLength op ≤ 3 := by
  unfold instrLength
  split
  · decide
  · split <;> decide

/-- The fetched bytes hold an instruction: the one `fetchInstr` gives. -/
theorem decode_fetchBytes (s : State) : ∃ rest, decode s.fetchBytes = .ok (s.fetchInstr, rest) := by
  have hlen : ¬ [s.read8 (s.pc + 1), s.read8 (s.pc + 2)].length + 1 < instrLength (s.read8 s.pc) :=
    Nat.not_lt.mpr (instrLength_le _)
  unfold State.fetchBytes
  rw [decode, if_neg hlen]
  exact ⟨_, rfl⟩

/-- Settles O5: the fetched bytes decode to `fetchInstr`, and the rest is the step's definition. -/
theorem stepRunsTheDecodedInstruction : Obligations.StepRunsTheDecodedInstruction := by
  unfold Obligations.StepRunsTheDecodedInstruction
  refine ⟨fun s => ?_, fun s joy i rest h => ?_, fun s => rfl⟩
  · obtain ⟨rest, h⟩ := decode_fetchBytes s
    exact ⟨s.fetchInstr, rest, (Encoding.encodeOfDecodedBytesGivesTheBytes _ _ _).1, h⟩
  · obtain ⟨rest', h'⟩ := decode_fetchBytes s
    rw [h'] at h
    obtain rfl : s.fetchInstr = i := congrArg Prod.fst (Except.ok.inj h)
    rfl

end Sys2Proof.Proofs.Steps
end

section
/-! The counters influence nothing (10_state.md R30): every operation, every instruction and the poll commute with setting them. -/

namespace Sys2Proof.Proofs.Counters
open Sys2Proof Sys2Proof.Machine

/-- The state with other counter values. -/
def recount (m n : Nat) (s : State) : State := { s with instrCount := m, tickCount := n }

section
variable (m n : Nat) (s : State)

/-! ### What is read is the same -/

@[simp] theorem read8_recount (a : Word) : (recount m n s).read8 a = s.read8 a := rfl
@[simp] theorem getReg_recount (r : Reg) : (recount m n s).getReg r = s.getReg r := by cases r <;> rfl
@[simp] theorem getSlot_recount (z : Slot) : (recount m n s).getSlot z = s.getSlot z := by cases z <;> rfl
@[simp] theorem getPair_recount (p : Pair) : (recount m n s).getPair p = s.getPair p := by cases p <;> rfl
@[simp] theorem getStackPair_recount (p : StackPair) : (recount m n s).getStackPair p = s.getStackPair p := by cases p <;> rfl
@[simp] theorem cond_recount (cc : Cond) : (recount m n s).cond cc = s.cond cc := by cases cc <;> rfl
@[simp] theorem bc_recount : (recount m n s).bc = s.bc := rfl
@[simp] theorem de_recount : (recount m n s).de = s.de := rfl
@[simp] theorem hl_recount : (recount m n s).hl = s.hl := rfl
@[simp] theorem a_recount : (recount m n s).a = s.a := rfl
@[simp] theorem c_recount : (recount m n s).c = s.c := rfl
@[simp] theorem sp_recount : (recount m n s).sp = s.sp := rfl
@[simp] theorem relTarget_recount (e8 : Byte) : (recount m n s).relTarget e8 = s.relTarget e8 := rfl

/-! ### What is written is the same -/

@[simp] theorem advance_recount (len : Nat) : (recount m n s).advance len = recount m n (s.advance len) := rfl
@[simp] theorem jump_recount (w : Word) : (recount m n s).jump w = recount m n (s.jump w) := rfl
@[simp] theorem write8_recount (a : Word) (v : Byte) : (recount m n s).write8 a v = recount m n (s.write8 a v) := rfl
@[simp] theorem write16_recount (a v : Word) : (recount m n s).write16 a v = recount m n (s.write16 a v) := rfl
@[simp] theorem push16_recount (v : Word) : (recount m n s).push16 v = recount m n (s.push16 v) := rfl
@[simp] theorem setReg_recount (r : Reg) (v : Byte) : (recount m n s).setReg r v = recount m n (s.setReg r v) := by cases r <;> rfl
@[simp] theorem setSlot_recount (z : Slot) (v : Byte) : (recount m n s).setSlot z v = recount m n (s.setSlot z v) := by cases z <;> rfl
@[simp] theorem setPair_recount (p : Pair) (v : Word) : (recount m n s).setPair p v = recount m n (s.setPair p v) := by cases p <;> rfl

/-! ### The bodies of the instructions -/

@[simp] theorem aluA_recount (op : AluOp) (v : Byte) : (recount m n s).aluA op v = recount m n (s.aluA op v) := by cases op <;> rfl
@[simp] theorem incSlot_recount (z : Slot) : (recount m n s).incSlot z = recount m n (s.incSlot z) := by cases z <;> rfl
@[simp] theorem decSlot_recount (z : Slot) : (recount m n s).decSlot z = recount m n (s.decSlot z) := by cases z <;> rfl
@[simp] theorem rotateSlot_recount (op : RotOp) (z : Slot) : (recount m n s).rotateSlot op z = recount m n (s.rotateSlot op z) := by
  cases z <;> rfl
@[simp] theorem testBit_recount (b : Nat) (z : Slot) : (recount m n s).testBit b z = recount m n (s.testBit b z) := by cases z <;> rfl
@[simp] theorem resetBit_recount (b : Nat) (z : Slot) : (recount m n s).resetBit b z = recount m n (s.resetBit b z) := by
  cases z <;> rfl
@[simp] theorem setSlotBit_recount (b : Nat) (z : Slot) : (recount m n s).setSlotBit b z = recount m n (s.setSlotBit b z) := by
  cases z <;> rfl
@[simp] theorem extended_recount (xop : Byte) : (recount m n s).extended xop = recount m n (s.extended xop) := by
  unfold State.extended
  dsimp only
  split <;> simp
@[simp] theorem jumpIf_recount (cc : Cond) (w : Word) (len : Nat) : (recount m n s).jumpIf cc w len = recount m n (s.jumpIf cc w len) := by
  unfold State.jumpIf
  rw [cond_recount]
  split <;> rfl
@[simp] theorem callIf_recount (cc : Cond) (w : Word) (len : Nat) : (recount m n s).callIf cc w len = recount m n (s.callIf cc w len) := by
  unfold State.callIf
  rw [cond_recount]
  split <;> rfl
@[simp] theorem retIf_recount (cc : Cond) : (recount m n s).retIf cc = recount m n (s.retIf cc) := by
  unfold State.retIf
  rw [cond_recount]
  split <;> rfl
@[simp] theorem popPair_recount (p : StackPair) : (recount m n s).popPair p = recount m n (s.popPair p) := by cases p <;> rfl
@[simp] theorem addHl_recount (v : Word) : (recount m n s).addHl v = recount m n (s.addHl v) := rfl
@[simp] theorem addSp_recount (e8 : Byte) : (recount m n s).addSp e8 = recount m n (s.addSp e8) := rfl
@[simp] theorem loadHlSp_recount (e8 : Byte) : (recount m n s).loadHlSp e8 = recount m n (s.loadHlSp e8) := rfl
@[simp] theorem rotateA_recount (op : RotOp) : (recount m n s).rotateA op = recount m n (s.rotateA op) := rfl
@[simp] theorem daa_recount : (recount m n s).daa = recount m n s.daa := rfl
@[simp] theorem complementA_recount : (recount m n s).complementA = recount m n s.complementA := rfl
@[simp] theorem setCarry_recount : (recount m n s).setCarry = recount m n s.setCarry := rfl
@[simp] theorem complementCarry_recount : (recount m n s).complementCarry = recount m n s.complementCarry := rfl
@[simp] theorem call_recount (w : Word) (len : Nat) : (recount m n s).call w len = recount m n (s.call w len) := rfl
@[simp] theorem ret_recount : (recount m n s).ret = recount m n s.ret := rfl
@[simp] theorem returnFromInterrupt_recount : (recount m n s).returnFromInterrupt = recount m n s.returnFromInterrupt := rfl
@[simp] theorem enterInterrupt_recount (k : IrqClass) : (recount m n s).enterInterrupt k = recount m n (s.enterInterrupt k) := rfl
@[simp] theorem requestDisable_recount : (recount m n s).requestDisable = recount m n s.requestDisable := rfl
@[simp] theorem requestEnable_recount : (recount m n s).requestEnable = recount m n s.requestEnable := rfl

end

/-! ### Every instruction -/

/-- A function of the next state, through an outcome. -/
def mapNext (f : State → State) : Host.Outcome State Fault Refusal → Host.Outcome State Fault Refusal
  | .next t => .next (f t)
  | .fault r => .fault r
  | .refused r => .refused r

theorem run_recount (m n : Nat) (g : Form) (s : State) : g.run (recount m n s) = mapNext (recount m n) (g.run s) := by
  cases g <;> simp [Form.run, mapNext]

theorem exec_recount (m n : Nat) (i : Instr) (s : State) : exec i (recount m n s) = mapNext (recount m n) (exec i s) := by
  rw [exec_eq_run, exec_eq_run, run_recount]

/-! ### The poll -/

theorem pollJoypad_recount (m n : Nat) (s : State) (joy : Bool) :
    (recount m n s).pollJoypad joy = recount m n (s.pollJoypad joy) := by
  cases joy <;> rfl

theorem pollDispatch_recount (m n : Nat) (s : State) : (recount m n s).pollDispatch = recount m n s.pollDispatch := by
  have ht : (recount m n s).trigger = s.trigger := rfl
  cases hime : s.ime with
  | false => rw [Steps.pollDispatch_of_ime_clear hime, Steps.pollDispatch_of_ime_clear (s := recount m n s) hime]
  | true =>
    have hime' : (recount m n s).ime = true := hime
    by_cases hz : s.trigger = 0
    · rw [Steps.pollDispatch_of_trigger_zero hz, Steps.pollDispatch_of_trigger_zero (ht.trans hz)]
    · cases hc : firstClass s.trigger with
      | some k =>
        rw [Steps.pollDispatch_of_firstClass_some hime hc, Steps.pollDispatch_of_firstClass_some hime' hc, enterInterrupt_recount]
      | none =>
        rw [Steps.pollDispatch_of_firstClass_none hime hz hc, Steps.pollDispatch_of_firstClass_none hime' hz hc]
        rfl

theorem pollRequests_recount (m n : Nat) (s : State) : (recount m n s).pollRequests = recount m n s.pollRequests := by
  rw [Steps.pollRequests_eq, Steps.pollRequests_eq]
  rfl

theorem poll_recount (m n : Nat) (s : State) (joy : Bool) : (recount m n s).poll joy = recount m n (s.poll joy) := by
  unfold State.poll
  rw [pollJoypad_recount, pollDispatch_recount, pollRequests_recount]

/-- Settles O10: the instruction and the poll commute with setting the counters, and the count between them adds to whatever they are. -/
theorem countersInfluenceNothing : Obligations.CountersInfluenceNothing := by
  unfold Obligations.CountersInfluenceNothing
  intro s m n
  have hexec : exec s.fetchInstr (Steps.afterInput (recount m n s)) = mapNext (recount m n) (exec s.fetchInstr (Steps.afterInput s)) :=
    exec_recount m n s.fetchInstr (Steps.afterInput s)
  have hstep : step (recount m n s) = Steps.finish s (exec s.fetchInstr (Steps.afterInput (recount m n s))) := rfl
  rw [hexec] at hstep
  refine hstep.trans ?_
  rw [Steps.step_eq_finish]
  cases exec s.fetchInstr (Steps.afterInput s) with
  | next v => exact congrArg Host.Outcome.next (poll_recount (m + 1) (n + Config.cycles (s.read8 s.pc)) (v.count (s.read8 s.pc)) _)
  | fault r => rfl
  | refused r => rfl

end Sys2Proof.Proofs.Counters
end

section
/-! The frames of Sys2Proof/Safety.lean through the shared operations: what an operation cannot touch passes through it, so that an
instruction's frame is read off the operations it is made of. -/

namespace Sys2Proof.Proofs.Frames
open Sys2Proof Sys2Proof.Machine

/-! ### `KeepsControl` -/

section
variable {s : State} (t : State)

@[simp] theorem keepsControl_refl : KeepsControl s s := ⟨rfl, rfl, rfl, rfl, rfl, rfl, rfl⟩
@[simp] theorem keepsControl_advance (n : Nat) : KeepsControl s (t.advance n) ↔ KeepsControl s t := Iff.rfl
@[simp] theorem keepsControl_jump (w : Word) : KeepsControl s (t.jump w) ↔ KeepsControl s t := Iff.rfl
@[simp] theorem keepsControl_drop16 : KeepsControl s t.drop16 ↔ KeepsControl s t := Iff.rfl
@[simp] theorem keepsControl_withFlags (z n h c : Bool) : KeepsControl s (t.withFlags z n h c) ↔ KeepsControl s t := Iff.rfl
@[simp] theorem keepsControl_setFlag (k : Flag) (v : Bool) : KeepsControl s (t.setFlag k v) ↔ KeepsControl s t := Iff.rfl
@[simp] theorem keepsControl_write8 (a : Word) (v : Byte) : KeepsControl s (t.write8 a v) ↔ KeepsControl s t := Iff.rfl
@[simp] theorem keepsControl_write16 (a v : Word) : KeepsControl s (t.write16 a v) ↔ KeepsControl s t := Iff.rfl
@[simp] theorem keepsControl_push16 (v : Word) : KeepsControl s (t.push16 v) ↔ KeepsControl s t := Iff.rfl
@[simp] theorem keepsControl_setReg (r : Reg) (v : Byte) : KeepsControl s (t.setReg r v) ↔ KeepsControl s t := by cases r <;> rfl
@[simp] theorem keepsControl_setSlot (z : Slot) (v : Byte) : KeepsControl s (t.setSlot z v) ↔ KeepsControl s t := by cases z <;> rfl
@[simp] theorem keepsControl_setPair (p : Pair) (v : Word) : KeepsControl s (t.setPair p v) ↔ KeepsControl s t := by cases p <;> rfl
@[simp] theorem keepsControl_setStackPair (p : StackPair) (v : Word) : KeepsControl s (t.setStackPair p v) ↔ KeepsControl s t := by
  cases p <;> rfl

/-! ### `KeepsMemory` -/

@[simp] theorem keepsMemory_refl : KeepsMemory s s := ⟨fun _ => rfl, rfl⟩
@[simp] theorem keepsMemory_advance (n : Nat) : KeepsMemory s (t.advance n) ↔ KeepsMemory s t := Iff.rfl
@[simp] theorem keepsMemory_drop16 : KeepsMemory s t.drop16 ↔ KeepsMemory s t := Iff.rfl
@[simp] theorem keepsMemory_withFlags (z n h c : Bool) : KeepsMemory s (t.withFlags z n h c) ↔ KeepsMemory s t := Iff.rfl
@[simp] theorem keepsMemory_setFlag (k : Flag) (v : Bool) : KeepsMemory s (t.setFlag k v) ↔ KeepsMemory s t := Iff.rfl
@[simp] theorem keepsMemory_setReg (r : Reg) (v : Byte) : KeepsMemory s (t.setReg r v) ↔ KeepsMemory s t := by cases r <;> rfl
@[simp] theorem keepsMemory_setPair (p : Pair) (v : Word) : KeepsMemory s (t.setPair p v) ↔ KeepsMemory s t := by cases p <;> rfl
@[simp] theorem keepsMemory_setStackPair (p : StackPair) (v : Word) : KeepsMemory s (t.setStackPair p v) ↔ KeepsMemory s t := by
  cases p <;> rfl

/-! ### `KeepsMemoryBut` -/

variable {stored : List Word}

@[simp] theorem keepsMemoryBut_advance (n : Nat) : KeepsMemoryBut stored s (t.advance n) ↔ KeepsMemoryBut stored s t := Iff.rfl
@[simp] theorem keepsMemoryBut_jump (w : Word) : KeepsMemoryBut stored s (t.jump w) ↔ KeepsMemoryBut stored s t := Iff.rfl
@[simp] theorem keepsMemoryBut_withFlags (z n h c : Bool) :
    KeepsMemoryBut stored s (t.withFlags z n h c) ↔ KeepsMemoryBut stored s t := Iff.rfl
@[simp] theorem keepsMemoryBut_setPair (p : Pair) (v : Word) :
    KeepsMemoryBut stored s (t.setPair p v) ↔ KeepsMemoryBut stored s t := by cases p <;> rfl

@[simp] theorem keepsMemoryBut_write8 (a : Word) (v : Byte) : KeepsMemoryBut [a] s (s.write8 a v) :=
  fun _ h => State.read8_write8_of_ne s v (h a (by simp))

@[simp] theorem keepsMemoryBut_write16 (a v : Word) : KeepsMemoryBut [a, a + 1] s (s.write16 a v) :=
  fun _ h => State.read8_write16_of_ne s v (h a (by simp)) (h (a + 1) (by simp))

@[simp] theorem keepsMemoryBut_push16 (v : Word) : KeepsMemoryBut [s.sp - 2, s.sp - 1] s (s.push16 v) :=
  fun _ h => State.read8_push16_of_ne s v (h (s.sp - 2) (by simp)) (h (s.sp - 1) (by simp))

@[simp] theorem keepsMemoryBut_setSlot (z : Slot) (v : Byte) : KeepsMemoryBut (slotStores s z) s (s.setSlot z v) :=
  fun _ h => State.read8_setSlot_of_ne s z v h

/-! ### `KeepsRegs` -/

variable {except : List Reg}

@[simp] theorem keepsRegs_refl : KeepsRegs except s s := fun _ _ => rfl
@[simp] theorem keepsRegs_advance (n : Nat) : KeepsRegs except s (t.advance n) ↔ KeepsRegs except s t := by simp [KeepsRegs]
@[simp] theorem keepsRegs_jump (w : Word) : KeepsRegs except s (t.jump w) ↔ KeepsRegs except s t := by simp [KeepsRegs]
@[simp] theorem keepsRegs_drop16 : KeepsRegs except s t.drop16 ↔ KeepsRegs except s t := by simp [KeepsRegs]
@[simp] theorem keepsRegs_withFlags (z n h c : Bool) : KeepsRegs except s (t.withFlags z n h c) ↔ KeepsRegs except s t := by
  simp [KeepsRegs]
@[simp] theorem keepsRegs_setFlag (k : Flag) (v : Bool) : KeepsRegs except s (t.setFlag k v) ↔ KeepsRegs except s t := by
  simp [KeepsRegs]
@[simp] theorem keepsRegs_write8 (a : Word) (v : Byte) : KeepsRegs except s (t.write8 a v) ↔ KeepsRegs except s t := by simp [KeepsRegs]
@[simp] theorem keepsRegs_write16 (a v : Word) : KeepsRegs except s (t.write16 a v) ↔ KeepsRegs except s t := by simp [KeepsRegs]
@[simp] theorem keepsRegs_push16 (v : Word) : KeepsRegs except s (t.push16 v) ↔ KeepsRegs except s t := by simp [KeepsRegs]

/-- A state that has the registers outside a list in common with `t` keeps them exactly when `t` does. -/
theorem keepsRegs_congr {t u : State} (h : ∀ r, r ∉ except → u.getReg r = t.getReg r) :
    KeepsRegs except s u ↔ KeepsRegs except s t :=
  forall₂_congr fun r hr => by rw [h r hr]

@[simp] theorem keepsRegs_setReg {r : Reg} (v : Byte) (h : r ∈ except) : KeepsRegs except s (t.setReg r v) ↔ KeepsRegs except s t :=
  keepsRegs_congr fun q hq => by rw [State.getReg_setReg, if_neg (ne_of_mem_of_not_mem h hq).symm]

@[simp] theorem keepsRegs_setSlot {z : Slot} (v : Byte) (h : slotRegs z ⊆ except) :
    KeepsRegs except s (t.setSlot z v) ↔ KeepsRegs except s t :=
  keepsRegs_congr fun q hq => State.getReg_setSlot t z v q fun e => hq (h e)

@[simp] theorem keepsRegs_setPair {p : Pair} (v : Word) (h : pairRegs p ⊆ except) :
    KeepsRegs except s (t.setPair p v) ↔ KeepsRegs except s t :=
  keepsRegs_congr fun q hq => State.getReg_setPair t p v q fun e => hq (h e)

@[simp] theorem keepsRegs_setPair_hl (v : Word) (hh : .h ∈ except) (hl : .l ∈ except) :
    KeepsRegs except s (t.setPair .hl v) ↔ KeepsRegs except s t :=
  keepsRegs_setPair t v (List.cons_subset.mpr ⟨hh, List.cons_subset.mpr ⟨hl, List.nil_subset _⟩⟩)

@[simp] theorem keepsRegs_setPair_sp (v : Word) : KeepsRegs except s (t.setPair .sp v) ↔ KeepsRegs except s t :=
  keepsRegs_setPair t v (List.nil_subset _)

@[simp] theorem keepsRegs_setStackPair {p : StackPair} (v : Word) (h : stackPairRegs p ⊆ except) :
    KeepsRegs except s (t.setStackPair p v) ↔ KeepsRegs except s t :=
  keepsRegs_congr fun q hq => State.getReg_setStackPair t p v q fun e => hq (h e)

end

end Sys2Proof.Proofs.Frames
end

section
/-! Pairs as views of their two registers (10_state.md R12, R13). -/

namespace Sys2Proof.Proofs.Pairs
open Sys2Proof Sys2Proof.Machine

/-- A pair reads back as written; through AF with its low nibble cleared. -/
@[simp] theorem getStackPair_setStackPair (s : State) (p : StackPair) (v : Word) :
    (s.setStackPair p v).getStackPair p = if p = .af then v &&& 0xFFF0 else v := by
  cases p
  case af => exact ofBytes_masked v
  all_goals exact ofBytes_hiByte_loByte v

theorem getStackPair_setStackPair_of_ne (s : State) {p q : StackPair} (v : Word) (h : q ≠ p) :
    (s.setStackPair p v).getStackPair q = s.getStackPair q := by
  cases p <;> cases q <;> first | rfl | exact absurd rfl h

@[simp] theorem getPair_setPair (s : State) (p : Pair) (v : Word) : (s.setPair p v).getPair p = v := by
  cases p
  case sp => rfl
  all_goals exact ofBytes_hiByte_loByte v

@[simp] theorem hl_setPair_hl (s : State) (v : Word) : (s.setPair .hl v).hl = v := getPair_setPair s .hl v

@[simp] theorem hl_advance (s : State) (n : Nat) : (s.advance n).hl = s.hl := rfl
@[simp] theorem hl_withFlags (s : State) (z n h c : Bool) : (s.withFlags z n h c).hl = s.hl := rfl
@[simp] theorem hl_setFlag (s : State) (k : Flag) (v : Bool) : (s.setFlag k v).hl = s.hl := rfl
@[simp] theorem getPair_advance (s : State) (n : Nat) (p : Pair) : (s.advance n).getPair p = s.getPair p := by cases p <;> rfl
@[simp] theorem getStackPair_advance (s : State) (n : Nat) (p : StackPair) : (s.advance n).getStackPair p = s.getStackPair p := by
  cases p <;> rfl

/-- Settles O19: each view is its two bytes, so a write of either half shows; a pair's write by its pair. -/
theorem pairViewsShareStorageWithTheirHalves : Obligations.PairViewsShareStorageWithTheirHalves := by
  unfold Obligations.PairViewsShareStorageWithTheirHalves
  refine ⟨fun s => ?views, fun s p v => ?pair, fun s v => ?half⟩
  case views => exact ⟨toNat_ofBytes _ _, toNat_ofBytes _ _, toNat_ofBytes _ _, toNat_ofBytes _ _⟩
  case pair => exact ⟨getStackPair_setStackPair s p v, fun q => getStackPair_setStackPair_of_ne s v⟩
  case half =>
    exact ⟨toNat_ofBytes _ _, toNat_ofBytes _ _, toNat_ofBytes _ _, toNat_ofBytes _ _, toNat_ofBytes _ _, toNat_ofBytes _ _,
      toNat_ofBytes _ _⟩

end Sys2Proof.Proofs.Pairs
end

section
/-! A slot read back after an instruction that wrote it (30_encoding.md R75). -/

namespace Sys2Proof.Proofs.Slots
open Sys2Proof Sys2Proof.Machine

@[simp] theorem getSlot_advance (s : State) (n : Nat) (z : Slot) : (s.advance n).getSlot z = s.getSlot z := by cases z <;> rfl
@[simp] theorem getSlot_withFlags (s : State) (fz fn fh fc : Bool) (z : Slot) :
    (s.withFlags fz fn fh fc).getSlot z = s.getSlot z := by cases z <;> rfl

/-- What a write of a slot leaves in it: the byte in a register slot, a stored byte in the memory slot. -/
theorem setSlot_readBack (s : State) (z : Slot) (v : Byte) :
    (z ≠ .indHl → (s.setSlot z v).getSlot z = v) ∧ (z = .indHl → (s.setSlot z v).read8 s.hl = seen s.hl v) :=
  ⟨State.getSlot_setSlot s z v, fun h => h ▸ State.read8_setSlot_indHl s v⟩

end Sys2Proof.Proofs.Slots
end

section
/-! Memory and the stack (20_memory.md, 45_control_flow_stack.md section 1), and the state after reset (10_state.md section 7,
70_reset_and_hazards.md section 1). -/

namespace Sys2Proof.Proofs.Memory
open Sys2Proof Sys2Proof.Machine

/-! ### Regions and cells -/

/-- Settles O14: the decoder's bounds are the regions' bounds. -/
theorem everyAddressIsInExactlyOneRegion : Obligations.EveryAddressIsInExactlyOneRegion := by
  unfold Obligations.EveryAddressIsInExactlyOneRegion
  intro a r
  have ha : a.toNat < 0x10000 := a.isLt
  unfold regionOf
  split_ifs <;> cases r <;> simp [Region.first, Region.last] <;> omega

/-- Outside the echo window a cell is one address. -/
theorem cellOf_eq_iff_of_not_echo (p : Params) {a b : Word} (ha : a.toNat < 0xE000 ∨ 0xF000 ≤ a.toNat)
    (hb : b.toNat < 0xE000 ∨ 0xF000 ≤ b.toNat) : cellOf p b = cellOf p a ↔ b = a := by
  rw [cellOf_of_not_echo p a ha, cellOf_of_not_echo p b hb, BitVec.toNat_inj]

/-- Settles O15. -/
theorem readAfterWriteOutsideTheEchoWindow : Obligations.ReadAfterWriteOutsideTheEchoWindow := by
  unfold Obligations.ReadAfterWriteOutsideTheEchoWindow
  intro s a b v ha hb
  refine ⟨?_, rfl⟩
  rw [State.read8_write8]
  simp only [cellOf_eq_iff_of_not_echo s.params ha hb]
  rfl

/-- Two addresses of one cell, neither the scanline stub, read alike. -/
theorem read8_eq_of_cellOf_eq {s : State} {a b : Word} (ha : a ≠ 0xFF44) (hb : b ≠ 0xFF44)
    (h : cellOf s.params a = cellOf s.params b) : s.read8 a = s.read8 b := by
  rw [State.read8_def, State.read8_def, h]
  exact (if_neg ha).trans (if_neg hb).symm

theorem seen_of_ne {a : Word} (h : a ≠ 0xFF44) (v : Byte) : seen a v = v := if_neg h

/-- An address given by a number in range is that number. -/
theorem toNat_ofNat_of_lt {n : Nat} (h : n < 0x10000) : (BitVec.ofNat 16 n).toNat = n := by
  rw [BitVec.toNat_ofNat, Nat.mod_eq_of_lt h]

/-- An address below the scanline stub is not the stub. -/
theorem ne_scanline_of_lt {a : Word} (h : a.toNat < 0xFF44) : a ≠ 0xFF44 := by
  rintro rfl
  exact absurd h (by decide)

/-- Settles O16: an echo address and its cartridge address name one cell, and work RAM is other cells. -/
theorem echoWindowIsTheCartridgeRegion : Obligations.EchoWindowIsTheCartridgeRegion := by
  unfold Obligations.EchoWindowIsTheCartridgeRegion
  intro s k v hk e c w
  have hmod : (s.params.echoBase.toNat + k) % 0x8000 < 0x8000 := Nat.mod_lt _ (by decide)
  have he : e.toNat = 0xE000 + k := toNat_ofNat_of_lt (by omega)
  have hc : c.toNat = (s.params.echoBase.toNat + k) % 0x8000 := toNat_ofNat_of_lt (by omega)
  have hw : w.toNat = 0xC000 + k := toNat_ofNat_of_lt (by omega)
  have hcell : cellOf s.params e = cellOf s.params c := by
    rw [cellOf_echo s.params e (by omega) (by omega), cellOf_of_not_echo s.params c (by omega), he, hc, Nat.add_sub_cancel_left]
  have hother : cellOf s.params w ≠ cellOf s.params e := by
    rw [hcell, cellOf_of_not_echo s.params c (by omega), cellOf_of_not_echo s.params w (by omega)]
    omega
  refine ⟨read8_eq_of_cellOf_eq (ne_scanline_of_lt (by omega)) (ne_scanline_of_lt (by omega)) hcell, ?_, ?_, ?_⟩
  · unfold State.write8
    rw [hcell]
  · rw [State.read8_write8_self, seen_of_ne (ne_scanline_of_lt (by omega))]
  · exact State.read8_write8_of_ne s v hother

/-! ### 16-bit accesses and the stack -/

theorem loByte_eq_ofNat (w : Word) : loByte w = BitVec.ofNat 8 w.toNat := by
  apply BitVec.eq_of_toNat_eq
  rw [toNat_loByte, BitVec.toNat_ofNat]

theorem hiByte_eq_ofNat (w : Word) : hiByte w = BitVec.ofNat 8 (w.toNat / 256) := by
  have := w.isLt
  apply BitVec.eq_of_toNat_eq
  rw [toNat_hiByte, BitVec.toNat_ofNat]
  omega

/-- Settles O17, clause by clause from the laws of the two byte accesses. -/
theorem sixteenBitAccessesAreLittleEndianBytes : Obligations.SixteenBitAccessesAreLittleEndianBytes := by
  unfold Obligations.SixteenBitAccessesAreLittleEndianBytes
  intro s a v
  rw [← loByte_eq_ofNat, ← hiByte_eq_ofNat]
  exact ⟨toNat_ofBytes _ _, State.read8_write16_lo s a v, State.read8_write16_hi s a v, Frames.keepsMemoryBut_write16 a v, rfl⟩

/-- The two bytes of a push, read back, are the word pushed. -/
theorem top16_push16 (s : State) (v : Word) (h0 : s.sp - 2 ≠ 0xFF44) (h1 : s.sp - 1 ≠ 0xFF44) : (s.push16 v).top16 = v := by
  unfold State.top16 State.read16
  rw [State.push16_sp, sub_two_add_one, State.read8_push16_hi, State.read8_push16_lo, seen_of_ne h0, seen_of_ne h1,
    ofBytes_hiByte_loByte]

/-- Settles O18. -/
theorem popAfterPushGivesTheValueBack : Obligations.PopAfterPushGivesTheValueBack := by
  unfold Obligations.PopAfterPushGivesTheValueBack
  intro s v h0 h1
  refine ⟨top16_push16 s v h0 h1, ?_, State.push16_sp s v⟩
  rw [State.drop16_sp, State.push16_sp, BitVec.sub_add_cancel]

/-! ### Reset -/

/-- BOOT in the first 256 bytes (70_reset_and_hazards.md R291). -/
theorem resetImage_getD_boot (cart : List Byte) (boot : Vector Byte 256) {k : Nat} (h : k < 0x0100) :
    (resetImage cart boot).getD k 0 = boot.toList.getD k 0 := by
  unfold resetImage
  rw [List.getD_append _ _ _ _ (by simpa using h)]

/-- CART after BOOT, cut at 32 KiB (70_reset_and_hazards.md R292). -/
theorem resetImage_getD_cart (cart : List Byte) (boot : Vector Byte 256) {k : Nat} (h : 0x0100 ≤ k) (h' : k < 0x8000) :
    (resetImage cart boot).getD k 0 = cart.getD k 0 := by
  unfold resetImage
  rw [List.getD_append_right _ _ _ _ (by simpa using h)]
  simp only [List.getD_eq_getElem?_getD, Vector.length_toList, List.getElem?_drop, List.getElem?_take]
  rw [Nat.add_sub_cancel' h, if_pos h']

theorem resetImage_getD_of_le (cart : List Byte) (boot : Vector Byte 256) {k : Nat} (h : 0x8000 ≤ k) :
    (resetImage cart boot).getD k 0 = 0 := by
  apply List.getD_eq_default
  simp only [resetImage, List.length_append, Vector.length_toList, List.length_drop, List.length_take]
  omega

/-- A read right after reset: the image's byte in the cell, but 0x90 at the scanline stub. -/
theorem read8_resetWith (r : ResetRegs) (cart : List Byte) (boot : Vector Byte 256) (joy : List Bool) (p : Params) (a : Word) :
    (State.resetWith r cart boot joy p).read8 a = seen a ((resetImage cart boot).getD (cellOf p a) 0) := by
  rw [State.read8_def]
  unfold seen State.resetWith
  rw [Memory.get_ofImage, if_pos (Nat.zero_le _)]
  rfl

/-- Settles O13: the address's cell, and the image's byte there. -/
theorem resetMemoryHoldsBootOverCart : Obligations.ResetMemoryHoldsBootOverCart := by
  unfold Obligations.ResetMemoryHoldsBootOverCart
  intro r cart boot joy p a s
  have hread : s.read8 a = _ := read8_resetWith r cart boot joy p a
  refine ⟨fun h => ?boot, fun h h' => ?cart, fun h h' => ?echo, fun h h' hne => ?other, fun h => ?stub⟩
  case boot =>
    rw [hread, seen_of_ne (ne_scanline_of_lt (by omega)), cellOf_of_not_echo p a (by omega), resetImage_getD_boot cart boot h]
  case cart =>
    rw [hread, seen_of_ne (ne_scanline_of_lt (by omega)), cellOf_of_not_echo p a (by omega), resetImage_getD_cart cart boot h h']
  case echo =>
    intro c
    have hc : c < 0x8000 := Nat.mod_lt _ (by decide)
    rw [hread, seen_of_ne (ne_scanline_of_lt (by omega)), cellOf_echo p a h h']
    split
    · next hb => exact resetImage_getD_boot cart boot hb
    · next hb => exact resetImage_getD_cart cart boot (Nat.le_of_not_lt hb) hc
  case other =>
    rw [hread, seen_of_ne hne, cellOf_of_not_echo p a h', resetImage_getD_of_le cart boot h]
  case stub =>
    rw [hread, h]
    rfl

/-- Bytes that all read as unlisted leave nothing in the list. -/
theorem ofImage_replicate_unlisted (k n : Nat) : Memory.ofImage k (List.replicate n Memory.unlisted) = [] := by
  induction n generalizing k with
  | zero => rfl
  | succ n ih => rw [List.replicate_succ, Memory.ofImage, if_pos rfl, ih]

/-- The state right after reset with nothing placed is `resetWith` at the defaults. -/
theorem reset_eq_resetWith : State.reset = State.resetWith ResetRegs.default [] (Vector.replicate 256 0) [] Params.default := by
  have himage : resetImage [] (Vector.replicate 256 0) = List.replicate 256 Memory.unlisted := by
    unfold resetImage
    rw [Vector.toList_replicate, List.take_nil, List.drop_nil, List.append_nil]
    rfl
  unfold State.resetWith
  rw [himage, ofImage_replicate_unlisted]
  rfl

/-- Settles O12. -/
theorem resetLeavesTheseRegisters : Obligations.ResetLeavesTheseRegisters := by
  unfold Obligations.ResetLeavesTheseRegisters
  refine ⟨fun r cart boot joy p => ?_, reset_eq_resetWith⟩
  have hlow : (r.f &&& 0xF0) &&& 0x0F = 0 := mask_low r.f
  have hhigh : (r.f &&& 0xF0) &&& 0xF0 = r.f &&& 0xF0 := by rw [BitVec.and_assoc, BitVec.and_self]
  exact ⟨rfl, rfl, rfl, rfl, rfl, rfl, rfl, rfl, rfl, hlow, hhigh, rfl, rfl, rfl, rfl, rfl⟩

theorem inv_resetWith (r : ResetRegs) (cart : List Byte) (boot : Vector Byte 256) (joy : List Bool) (p : Params) :
    Inv (State.resetWith r cart boot joy p) :=
  ⟨mask_low r.f, State.wf_resetWith r cart boot joy p, rfl, rfl⟩

/-- Settles O7: for every parameter, and so for the defaults. -/
theorem resetMeetsTheInvariant : Obligations.ResetMeetsTheInvariant := by
  unfold Obligations.ResetMeetsTheInvariant
  exact ⟨reset_eq_resetWith ▸ inv_resetWith _ _ _ _ _, inv_resetWith⟩

end Sys2Proof.Proofs.Memory
end

section
/-! The loads (40_loads_8bit.md, 41_loads_16bit.md): what each form of load leaves, then the instructions of that form. -/

namespace Sys2Proof.Proofs.Loads
open Sys2Proof Sys2Proof.Machine

/-! ### Registers from registers, memory and immediates -/

/-- What an instruction that writes one 8-bit register leaves. -/
theorem setReg_effect (s : State) (r : Reg) (v : Byte) (len : Nat) :
    let t := (s.setReg r v).advance len
    t.getReg r = v ∧ t.pc = s.pc + BitVec.ofNat 16 len ∧
      KeepsRegs [r] s t ∧ t.f = s.f ∧ t.sp = s.sp ∧ KeepsControl s t ∧ KeepsMemory s t := by
  simp

/-- Settles O26. -/
theorem loadRegisterFromRegister : Obligations.LoadRegisterFromRegister := by
  unfold Obligations.LoadRegisterFromRegister
  exact fun dst src s => ⟨_, exec_ldOf_reg dst src s, setReg_effect s dst _ 1⟩

/-- A register as an operand slot is written as the register is. -/
theorem setSlot_slot (s : State) (r : Reg) (v : Byte) : s.setSlot r.slot v = s.setReg r v := by
  cases r <;> rfl

/-- Settles O27. -/
theorem loadRegisterFromMemoryOrImmediate : Obligations.LoadRegisterFromMemoryOrImmediate := by
  unfold Obligations.LoadRegisterFromMemoryOrImmediate
  intro dst d8 s
  refine ⟨⟨_, exec_ldOf_mem dst s, setReg_effect s dst _ 1⟩, ⟨_, exec_ldImmOf dst.slot d8 s, ?_⟩⟩
  rw [setSlot_slot]
  exact setReg_effect s dst d8 2

/-- The high page's address by number (30_encoding.md R87). -/
theorem highPage_eq_ofNat (a8 : Byte) : highPage a8 = BitVec.ofNat 16 (0xFF00 + a8.toNat) := by
  unfold highPage
  bv_omega

/-- Settles O29: five instructions, one form. -/
theorem loadAccumulatorFromMemory : Obligations.LoadAccumulatorFromMemory := by
  unfold Obligations.LoadAccumulatorFromMemory
  intro a16 a8 s
  rw [← highPage_eq_ofNat, ← highPage_eq_ofNat]
  simp only [List.forall_mem_cons]
  exact ⟨⟨_, rfl, setReg_effect s .a _ 1⟩, ⟨_, rfl, setReg_effect s .a _ 1⟩, ⟨_, rfl, setReg_effect s .a _ 3⟩,
    ⟨_, rfl, setReg_effect s .a _ 2⟩, ⟨_, rfl, setReg_effect s .a _ 1⟩, by simp⟩

/-! ### Stores -/

/-- What an instruction that stores one byte leaves. -/
theorem write8_effect (s : State) (a : Word) (v : Byte) (len : Nat) :
    let t := (s.write8 a v).advance len
    t.read8 a = seen a v ∧ KeepsMemoryBut [a] s t ∧ t.pc = s.pc + BitVec.ofNat 16 len ∧
      KeepsRegs [] s t ∧ t.f = s.f ∧ t.sp = s.sp ∧ KeepsControl s t := by
  simp [State.read8_write8_self]

/-- Settles O28. -/
theorem storeRegisterOrImmediateAtHl : Obligations.StoreRegisterOrImmediateAtHl := by
  unfold Obligations.StoreRegisterOrImmediateAtHl
  exact fun src d8 s =>
    ⟨⟨_, exec_ldOf_store src s, write8_effect s s.hl _ 1⟩, ⟨_, exec_ldImmOf .indHl d8 s, write8_effect s s.hl d8 2⟩⟩

/-- Settles O30: five instructions, one form. -/
theorem storeAccumulatorToMemory : Obligations.StoreAccumulatorToMemory := by
  unfold Obligations.StoreAccumulatorToMemory
  refine ⟨highPage_eq_ofNat, fun a16 a8 s => ?_⟩
  simp only [List.forall_mem_cons]
  exact ⟨⟨_, rfl, write8_effect s _ _ 1⟩, ⟨_, rfl, write8_effect s _ _ 1⟩, ⟨_, rfl, write8_effect s _ _ 3⟩,
    ⟨_, rfl, write8_effect s _ _ 2⟩, ⟨_, rfl, write8_effect s _ _ 1⟩, by simp⟩

/-! ### The forms that step HL -/

/-- A is stored at the old HL, and HL becomes `w`. -/
theorem storeStep_effect (s : State) (w : Word) :
    let t := ((s.write8 s.hl s.a).setPair .hl w).advance 1
    t.read8 s.hl = seen s.hl s.a ∧ KeepsMemoryBut [s.hl] s t ∧ t.hl = w ∧ t.pc = s.pc + 1 ∧
      KeepsRegs [.h, .l] s t ∧ t.f = s.f ∧ t.sp = s.sp ∧ KeepsControl s t := by
  simp [State.read8_write8_self]

/-- A is loaded from the old HL, and HL becomes `w`. -/
theorem loadStep_effect (s : State) (w : Word) :
    let t := ((s.setReg .a (s.read8 s.hl)).setPair .hl w).advance 1
    t.a = s.read8 s.hl ∧ t.hl = w ∧ t.pc = s.pc + 1 ∧
      KeepsRegs [.a, .h, .l] s t ∧ t.f = s.f ∧ t.sp = s.sp ∧ KeepsControl s t ∧ KeepsMemory s t := by
  simp

/-- Settles O31. -/
theorem loadsAndStoresThatStepHl : Obligations.LoadsAndStoresThatStepHl := by
  unfold Obligations.LoadsAndStoresThatStepHl
  intro s
  simp only [List.forall_mem_cons]
  exact ⟨⟨⟨_, rfl, storeStep_effect s _⟩, ⟨_, rfl, storeStep_effect s _⟩, by simp⟩,
    ⟨⟨_, rfl, loadStep_effect s _⟩, ⟨_, rfl, loadStep_effect s _⟩, by simp⟩⟩

/-! ### The 16-bit loads -/

/-- What an instruction that writes one pair leaves. -/
theorem setPair_effect (s : State) (p : Pair) (v : Word) (len : Nat) :
    let t := (s.setPair p v).advance len
    t.getPair p = v ∧ t.pc = s.pc + BitVec.ofNat 16 len ∧ (p ≠ .sp → t.sp = s.sp) ∧
      KeepsRegs (pairRegs p) s t ∧ t.f = s.f ∧ KeepsControl s t ∧ KeepsMemory s t := by
  simp +contextual

/-- What a 16-bit store leaves. -/
theorem write16_effect (s : State) (a v : Word) (len : Nat) :
    let t := (s.write16 a v).advance len
    t.read8 a = seen a (loByte v) ∧ t.read8 (a + 1) = seen (a + 1) (hiByte v) ∧ KeepsMemoryBut [a, a + 1] s t ∧
      t.pc = s.pc + BitVec.ofNat 16 len ∧ KeepsRegs [] s t ∧ t.f = s.f ∧ t.sp = s.sp ∧ KeepsControl s t := by
  exact ⟨State.read8_write16_lo s a v, State.read8_write16_hi s a v, Frames.keepsMemoryBut_write16 a v, by simp⟩

/-- Settles O32. -/
theorem sixteenBitLoads : Obligations.SixteenBitLoads := by
  unfold Obligations.SixteenBitLoads
  refine ⟨fun p d16 s => ⟨_, exec_ldPairOf p d16 s, setPair_effect s p d16 3⟩, fun a16 s => ⟨_, rfl, write16_effect s a16 s.sp 3⟩,
    fun s => ⟨_, rfl, ?_⟩⟩
  obtain ⟨hsp, hpc, -, hframe⟩ := setPair_effect s .sp s.hl 1
  exact ⟨hsp, hpc, hframe⟩

end Sys2Proof.Proofs.Loads
end

section
/-! The 16-bit adders (43_alu_16bit.md section 1) and the rotates and shifts (44_rotate_shift_bit.md section 3). -/

namespace Sys2Proof.Proofs.Primitives
open Sys2Proof Sys2Proof.Machine

/-! ### Signed displacements -/

/-- A displacement added to a word is the sum over the integers (00_scope.md section 6.1). -/
theorem add_sext16 (w : Word) (e : Byte) : w + sext16 e = BitVec.ofInt 16 ((w.toNat : Int) + e.toInt) := by
  rw [BitVec.ofInt_add, BitVec.ofInt_natCast, BitVec.ofNat_toNat, BitVec.setWidth_eq]
  rfl

theorem toNat_add_sext16 (w : Word) (e : Byte) : ((w + sext16 e).toNat : Int) = ((w.toNat : Int) + e.toInt) % 0x10000 := by
  rw [add_sext16, BitVec.toNat_ofInt]
  exact Int.toNat_of_nonneg (Int.emod_nonneg _ (by decide))

/-! ### The 16-bit adders -/

/-- The document masks the low twelve bits out where the model takes a remainder. -/
theorem toNat_lowTwelve (w : Word) : (w &&& 0x0FFF).toNat = w.toNat % 0x1000 := by
  rw [BitVec.toNat_and]
  exact Nat.and_two_pow_sub_one_eq_mod w.toNat 12

theorem add16_r_toNat (a b : Word) : (add16 a b).r.toNat = (a.toNat + b.toNat) % 0x10000 := BitVec.toNat_ofNat _ _

theorem add16_h_iff (a b : Word) : (add16 a b).h = true ↔ a.toNat % 0x1000 + b.toNat % 0x1000 > 0x0FFF := decide_eq_true_iff

theorem add16_c_iff (a b : Word) : (add16 a b).c = true ↔ a.toNat + b.toNat > 0xFFFF := by
  have hb : b.toNat < 0x10000 := b.isLt
  unfold add16
  rw [decide_eq_true_iff]
  omega

theorem addsp_h_iff (sp : Word) (e : Byte) : (addsp sp e).h = true ↔ sp.toNat % 16 + e.toNat % 16 > 0xF := decide_eq_true_iff

theorem addsp_c_iff (sp : Word) (e : Byte) : (addsp sp e).c = true ↔ sp.toNat % 256 + e.toNat > 0xFF := decide_eq_true_iff

/-- H of the SP-relative sum is that of the low bytes' sum (decision D32, log 24). -/
theorem addsp_h_eq_add8_h (sp : Word) (e : Byte) : (addsp sp e).h = (add8 (BitVec.ofNat 8 sp.toNat) e false).h := by
  unfold addsp add8
  rw [BitVec.toNat_ofNat, Nat.mod_mod_of_dvd _ (by decide)]
  rfl

theorem addsp_c_eq_add8_c (sp : Word) (e : Byte) : (addsp sp e).c = (add8 (BitVec.ofNat 8 sp.toNat) e false).c := by
  unfold addsp add8
  rw [BitVec.toNat_ofNat]
  rfl

/-- Settles O24, output by output. -/
theorem sixteenBitAddersMeetTheFormulas : Obligations.SixteenBitAddersMeetTheFormulas := by
  unfold Obligations.SixteenBitAddersMeetTheFormulas
  refine ⟨fun a b => ⟨add16_r_toNat a b, ?_, add16_c_iff a b⟩, fun sp e =>
    ⟨toNat_add_sext16 sp e, addsp_h_eq_add8_h sp e, addsp_c_eq_add8_c sp e⟩⟩
  rw [toNat_lowTwelve, toNat_lowTwelve]
  exact add16_h_iff a b

/-! ### Rotates and shifts -/

/-- Settles O25: operation by operation and bit by bit. -/
theorem rotatesAndShiftsBitByBit : Obligations.RotatesAndShiftsBitByBit := by
  unfold Obligations.RotatesAndShiftsBitByBit
  intro op v cf j hj
  refine ⟨?_, by cases op <;> rfl⟩
  cases op <;> interval_cases j <;> simp [rotResult]

end Sys2Proof.Proofs.Primitives
end

section
/-! Arithmetic and logic (42_alu_8bit.md, 43_alu_16bit.md): what each operation writes, then the instructions. -/

namespace Sys2Proof.Proofs.Arithmetic
open Sys2Proof Sys2Proof.Machine

/-! ### Sums with SP -/

/-- Settles O33: the two instructions write the same sum and flags, to HL and to SP. -/
theorem stackPointerRelativeSums : Obligations.StackPointerRelativeSums := by
  unfold Obligations.StackPointerRelativeSums
  intro e8 s
  have hsum : ((addsp s.sp e8).r.toNat : Int) = ((s.sp.toNat : Int) + e8.toInt) % 0x10000 := Primitives.toNat_add_sext16 s.sp e8
  have hh := Primitives.addsp_h_iff s.sp e8
  have hc := Primitives.addsp_c_iff s.sp e8
  exact ⟨⟨_, rfl, by simp [State.loadHlSp, hsum, hh, hc]⟩, ⟨_, rfl, by simp [State.addSp, hsum, hh, hc]⟩⟩

/-! ### Operations on A -/

/-- CP writes back the A it found; every other operation its result. -/
theorem aluA_eq (s : State) (op : AluOp) (v : Byte) :
    s.aluA op v =
      (s.setReg .a (if op = .cp then s.a else (alu op s.a v (s.flag .c)).r)).withFlags (alu op s.a v (s.flag .c)).z
        (alu op s.a v (s.flag .c)).n (alu op s.a v (s.flag .c)).h (alu op s.a v (s.flag .c)).c := by
  cases op <;> rfl

/-- What an operation on A of any length leaves. -/
theorem aluA_effect (s : State) (op : AluOp) (v : Byte) (len : Nat) :
    let t := (s.aluA op v).advance len
    let o := alu op s.a v (s.flag .c)
    t.a = (if op = .cp then s.a else o.r) ∧
      t.flag .z = o.z ∧ t.flag .n = o.n ∧ t.flag .h = o.h ∧ t.flag .c = o.c ∧ t.pc = s.pc + BitVec.ofNat 16 len ∧
      KeepsRegs [.a] s t ∧ t.sp = s.sp ∧ KeepsControl s t ∧ KeepsMemory s t := by
  rw [aluA_eq]
  simp

/-- Settles O34: the primitives by definition; a slot and an immediate differ in the length alone. -/
theorem operationsOnTheAccumulator : Obligations.OperationsOnTheAccumulator := by
  unfold Obligations.OperationsOnTheAccumulator
  refine ⟨fun a v cf => ⟨rfl, rfl, rfl, rfl, rfl, rfl, rfl, rfl⟩, fun op z d8 s => ?_⟩
  simp only [List.forall_mem_cons]
  exact ⟨⟨_, exec_aluOf op z s, aluA_effect s op _ 1⟩, ⟨_, exec_aluImmOf op d8 s, aluA_effect s op d8 2⟩, by simp⟩

/-! ### INC and DEC of a slot -/

theorem add8_one_r (v : Byte) : (add8 v 1 false).r = v + 1 := by
  unfold add8
  bv_omega

theorem sub8_one_r (v : Byte) : (sub8 v 1 false).r = v - 1 := by
  unfold sub8
  bv_omega

theorem add8_one_h (v : Byte) : (add8 v 1 false).h = decide (v.toNat % 16 = 15) := by
  unfold add8
  rw [decide_eq_decide, show (1 : Byte).toNat % 16 = 1 from rfl, Bool.toNat_false]
  omega

theorem sub8_one_h (v : Byte) : (sub8 v 1 false).h = decide (v.toNat % 16 = 0) := by
  unfold sub8
  rw [decide_eq_decide, show (1 : Byte).toNat % 16 = 1 from rfl, Bool.toNat_false]
  omega

theorem incSlot_eq (s : State) (z : Slot) :
    s.incSlot z = (s.setSlot z (s.getSlot z + 1)).withFlags (s.getSlot z + 1 == 0) false
      (decide ((s.getSlot z).toNat % 16 = 15)) (s.flag .c) := by
  rw [← add8_one_r, ← add8_one_h]
  rfl

theorem decSlot_eq (s : State) (z : Slot) :
    s.decSlot z = (s.setSlot z (s.getSlot z - 1)).withFlags (s.getSlot z - 1 == 0) true
      (decide ((s.getSlot z).toNat % 16 = 0)) (s.flag .c) := by
  rw [← sub8_one_r, ← sub8_one_h]
  rfl

/-- Settles O35: each is a slot written, with the flags of a sum or a difference with one. -/
theorem incrementAndDecrementOfASlot : Obligations.IncrementAndDecrementOfASlot := by
  unfold Obligations.IncrementAndDecrementOfASlot
  intro z s
  refine ⟨⟨_, exec_incOf z s, ?inc⟩, ⟨_, exec_decOf z s, ?dec⟩⟩
  case inc =>
    obtain ⟨hreg, hmem⟩ := Slots.setSlot_readBack s z (s.getSlot z + 1)
    rw [incSlot_eq]
    exact ⟨by simpa using hreg, by simpa using hmem, by simp⟩
  case dec =>
    obtain ⟨hreg, hmem⟩ := Slots.setSlot_readBack s z (s.getSlot z - 1)
    rw [decSlot_eq]
    exact ⟨by simpa using hreg, by simpa using hmem, by simp⟩

/-! ### Decimal adjust -/

/-- The adjustment is 0x60 and 0x06, each when its condition holds (42_alu_8bit.md R165). -/
theorem daaAdjust_toNat (a : Byte) (n h c : Bool) :
    (daaAdjust a n h c).toNat =
      (if c = true ∨ (n = false ∧ a.toNat > 0x99) then 0x60 else 0) +
        (if h = true ∨ (n = false ∧ a.toNat % 16 > 9) then 0x06 else 0) := by
  unfold daaAdjust
  by_cases hlow : a.toNat % 16 > 9 <;> by_cases hhigh : a.toNat > 0x99 <;> cases n <;> cases h <;> cases c <;> simp [hlow, hhigh]

theorem daaResult_toNat (a : Byte) (n h c : Bool) :
    (daaResult a n h c).toNat =
      if n = true then (a.toNat + 256 - (daaAdjust a n h c).toNat) % 256 else (a.toNat + (daaAdjust a n h c).toNat) % 256 := by
  have ha : a.toNat < 256 := a.isLt
  have hadj : (daaAdjust a n h c).toNat < 256 := (daaAdjust a n h c).isLt
  unfold daaResult
  cases n
  · rw [if_neg Bool.false_ne_true, if_neg Bool.false_ne_true, BitVec.toNat_add]
  · rw [if_pos rfl, if_pos rfl, BitVec.toNat_sub]
    omega

/-- The adjustment is at least 0x60 exactly when its high part applies. -/
theorem daaAdjust_ge_iff (a : Byte) (n h c : Bool) :
    (daaAdjust a n h c).toNat ≥ 0x60 ↔ c = true ∨ (n = false ∧ a.toNat > 0x99) := by
  rw [daaAdjust_toNat]
  split_ifs <;> simp [*]

/-- Settles O36: the adjustment is the sum of its two parts, and C tells its high part. -/
theorem decimalAdjustFollowsTheRule : Obligations.DecimalAdjustFollowsTheRule := by
  unfold Obligations.DecimalAdjustFollowsTheRule
  intro s
  refine ⟨_, rfl, ⟨(daaAdjust s.a (s.flag .n) (s.flag .h) (s.flag .c)).toNat, ?both, ?low, ?high, ?none, ?result⟩, ?rest⟩
  case both => rintro ⟨hl, hh⟩; rw [daaAdjust_toNat, if_pos hh, if_pos hl]
  case low => rintro ⟨hl, hh⟩; rw [daaAdjust_toNat, if_neg hh, if_pos hl]
  case high => rintro ⟨hl, hh⟩; rw [daaAdjust_toNat, if_pos hh, if_neg hl]
  case none => rintro ⟨hl, hh⟩; rw [daaAdjust_toNat, if_neg hh, if_neg hl]
  case result => exact daaResult_toNat _ _ _ _
  case rest => simp [State.daa, daaAdjust_ge_iff]

/-! ### Packed BCD (95_test_vectors.md S3) -/

/-- The packed BCD byte of two decimal digits. -/
def bcd (tens units : Nat) : Byte := BitVec.ofNat 8 (tens * 16 + units)

section
variable {p q k l : Nat} (hq : q < 10) (hl : l < 10)
include hq hl

/-- A packed sum passes 0x99, its carry counted, exactly when the decimal sum has three digits: by the sum of the tens. -/
theorem packed_sum_high (hp : p < 10) (hk : k < 10) :
    p * 16 + q + (k * 16 + l) > 0xFF ∨ (p * 16 + q + (k * 16 + l)) % 256 > 0x99 ↔ 100 ≤ (p * 10 + q) + (k * 10 + l) := by
  obtain h | h | h : p + k ≤ 8 ∨ p + k = 9 ∨ 10 ≤ p + k := by omega
  all_goals omega

/-- A packed sum's low nibble passes 9, its carry counted, exactly when the units carry. -/
theorem packed_sum_low :
    (p * 16 + q) % 16 + (k * 16 + l) % 16 > 0xF ∨ (p * 16 + q + (k * 16 + l)) % 256 % 16 > 9 ↔ 10 ≤ q + l := by
  have hunits : (p * 16 + q) % 16 = q := by omega
  have hunits' : (k * 16 + l) % 16 = l := by omega
  have hsum : (p * 16 + q + (k * 16 + l)) % 256 % 16 = (q + l) % 16 := by omega
  omega

/-- A packed sum plus its adjustment is the packed decimal sum: by whether the sum has hundreds and the units carry. -/
theorem packed_sum_adjusted (hp : p < 10) (hk : k < 10) :
    ((p * 16 + q + (k * 16 + l)) % 256 +
      ((if 100 ≤ (p * 10 + q) + (k * 10 + l) then 0x60 else 0) + (if 10 ≤ q + l then 0x06 else 0))) % 256 =
      ((p * 10 + q) + (k * 10 + l)) % 100 / 10 * 16 + ((p * 10 + q) + (k * 10 + l)) % 100 % 10 := by
  split_ifs with hhundreds hcarry hcarry
  · have h : ((p * 10 + q) + (k * 10 + l)) % 100 = (p + k - 9) * 10 + (q + l - 10) := by omega
    rw [h]
    omega
  · have h : ((p * 10 + q) + (k * 10 + l)) % 100 = (p + k - 10) * 10 + (q + l) := by omega
    rw [h]
    omega
  · have h : ((p * 10 + q) + (k * 10 + l)) % 100 = (p + k + 1) * 10 + (q + l - 10) := by omega
    rw [h]
    omega
  · have h : ((p * 10 + q) + (k * 10 + l)) % 100 = (p + k) * 10 + (q + l) := by omega
    rw [h]
    omega

end

theorem toNat_bcd {p q : Nat} (hp : p < 10) (hq : q < 10) : (bcd p q).toNat = p * 16 + q := by
  unfold bcd
  rw [BitVec.toNat_ofNat]
  omega

section
variable {p q k l : Nat} (hp : p < 10) (hq : q < 10) (hk : k < 10) (hl : l < 10)
include hp hq hk hl

theorem add8_bcd_r : (add8 (bcd p q) (bcd k l) false).r.toNat = (p * 16 + q + (k * 16 + l)) % 256 := by
  rw [Alu8.add8_r_toNat, toNat_bcd hp hq, toNat_bcd hk hl, Bool.toNat_false, Nat.add_zero]

/-- DAA's condition for 0x60 after the sum of two packed BCD bytes. -/
theorem add8_bcd_high :
    (add8 (bcd p q) (bcd k l) false).c = true ∨ (add8 (bcd p q) (bcd k l) false).r.toNat > 0x99 ↔
      100 ≤ (p * 10 + q) + (k * 10 + l) := by
  rw [Alu8.add8_c_iff, add8_bcd_r hp hq hk hl, toNat_bcd hp hq, toNat_bcd hk hl, Bool.toNat_false, Nat.add_zero]
  exact packed_sum_high hq hl hp hk

/-- DAA's condition for 0x06 after the sum of two packed BCD bytes. -/
theorem add8_bcd_low :
    (add8 (bcd p q) (bcd k l) false).h = true ∨ (add8 (bcd p q) (bcd k l) false).r.toNat % 16 > 9 ↔
      10 ≤ q + l := by
  rw [Alu8.add8_h_iff, Alu8.toNat_lowNibble, Alu8.toNat_lowNibble, add8_bcd_r hp hq hk hl, toNat_bcd hp hq, toNat_bcd hk hl,
    Bool.toNat_false, Nat.add_zero]
  exact packed_sum_low hq hl

/-- DAA after the sum of two packed BCD bytes gives the packed BCD of the decimal sum's last two digits. -/
theorem daaResult_bcd :
    daaResult (add8 (bcd p q) (bcd k l) false).r false (add8 (bcd p q) (bcd k l) false).h (add8 (bcd p q) (bcd k l) false).c =
      bcd (((p * 10 + q) + (k * 10 + l)) % 100 / 10) (((p * 10 + q) + (k * 10 + l)) % 100 % 10) := by
  apply BitVec.eq_of_toNat_eq
  rw [daaResult_toNat, if_neg Bool.false_ne_true, daaAdjust_toNat, toNat_bcd (by omega) (by omega)]
  simp only [true_and, add8_bcd_high hp hq hk hl, add8_bcd_low hp hq hk hl]
  rw [add8_bcd_r hp hq hk hl]
  exact packed_sum_adjusted hq hl hp hk

end

theorem addA_effect (s : State) (v : Byte) :
    let t := (s.aluA .add v).advance 2
    t.a = (add8 s.a v false).r ∧ t.flag .n = false ∧ t.flag .h = (add8 s.a v false).h ∧ t.flag .c = (add8 s.a v false).c := by
  obtain ⟨hr, -, hn, hh, hc, -⟩ := aluA_effect s .add v 2
  exact ⟨hr, hn, hh, hc⟩

theorem daa_a (s : State) : (s.daa.advance 1).a = daaResult s.a (s.flag .n) (s.flag .h) (s.flag .c) := rfl

theorem daa_flag_c_iff (s : State) :
    (s.daa.advance 1).flag .c = true ↔ s.flag .c = true ∨ (s.flag .n = false ∧ s.a.toNat > 0x99) := by
  rw [← daaAdjust_ge_iff s.a (s.flag .n) (s.flag .h) (s.flag .c)]
  simp [State.daa]

/-- Settles O37: DAA on the sum's flags. -/
theorem decimalAdjustAfterBcdAddIsTheDecimalSum : Obligations.DecimalAdjustAfterBcdAddIsTheDecimalSum := by
  unfold Obligations.DecimalAdjustAfterBcdAddIsTheDecimalSum
  intro s x y hx hy ha
  have hp : x / 10 < 10 := by omega
  have hq : x % 10 < 10 := Nat.mod_lt _ (by decide)
  have hk : y / 10 < 10 := by omega
  have hl : y % 10 < 10 := Nat.mod_lt _ (by decide)
  have hxy : (x / 10 * 10 + x % 10) + (y / 10 * 10 + y % 10) = x + y := by rw [Nat.div_add_mod', Nat.div_add_mod']
  replace ha : s.a = bcd (x / 10) (x % 10) := ha
  obtain ⟨hr, hn, hh, hc⟩ := addA_effect s (bcd (y / 10) (y % 10))
  rw [ha] at hr hh hc
  refine ⟨_, _, exec_aluImmOf .add (bcd (y / 10) (y % 10)) s, rfl, ?_, ?_⟩
  · rw [daa_a, hr, hn, hh, hc, daaResult_bcd hp hq hk hl, hxy, bcd, Nat.mod_mod_of_dvd _ (by decide)]
  · rw [daa_flag_c_iff, hr, hn, hc, eq_self, true_and, add8_bcd_high hp hq hk hl, hxy]

/-! ### CPL, SCF, CCF -/

/-- Settles O38. -/
theorem complementAndCarryInstructions : Obligations.ComplementAndCarryInstructions := by
  unfold Obligations.ComplementAndCarryInstructions
  intro s
  have hxor : s.a ^^^ 0xFF#8 = ~~~s.a := BitVec.xor_allOnes
  simp only [List.forall_mem_cons]
  exact ⟨⟨_, rfl, by simp [State.complementA, hxor]⟩, ⟨_, rfl, by simp [State.setCarry]⟩,
    ⟨_, rfl, by simp [State.complementCarry]⟩, by simp⟩

/-! ### 16-bit arithmetic -/

/-- Settles O39. -/
theorem addPairToHlKeepsZAndN : Obligations.AddPairToHlKeepsZAndN := by
  unfold Obligations.AddPairToHlKeepsZAndN
  intro p s
  have hr := Primitives.add16_r_toNat s.hl (s.getPair p)
  have hh := Primitives.add16_h_iff s.hl (s.getPair p)
  have hc := Primitives.add16_c_iff s.hl (s.getPair p)
  exact ⟨_, exec_addHlOf p s, by simp [State.addHl, hr, hh, hc]⟩

/-- Settles O40: each writes one pair and nothing else. -/
theorem incrementAndDecrementOfAPair : Obligations.IncrementAndDecrementOfAPair := by
  unfold Obligations.IncrementAndDecrementOfAPair
  intro p s
  simp only [List.forall_mem_cons]
  exact ⟨⟨_, exec_incPairOf p s, Loads.setPair_effect s p _ 1⟩, ⟨_, exec_decPairOf p s, Loads.setPair_effect s p _ 1⟩, by simp⟩

end Sys2Proof.Proofs.Arithmetic
end

section
/-! Rotates, shifts and bit operations (44_rotate_shift_bit.md), and the extended table's escape (46_system.md R255). -/

namespace Sys2Proof.Proofs.Bits
open Sys2Proof Sys2Proof.Machine

theorem rotateA_effect (s : State) (op : RotOp) :
    let t := (s.rotateA op).advance 1
    t.a = rotResult op s.a (s.flag .c) ∧ t.flag .z = false ∧ t.flag .n = false ∧ t.flag .h = false ∧
      t.flag .c = rotCarry op s.a ∧ t.pc = s.pc + 1 ∧ KeepsRegs [.a] s t ∧ t.sp = s.sp ∧ KeepsControl s t ∧ KeepsMemory s t := by
  simp [State.rotateA]

/-- Settles O41: four instructions, one form. -/
theorem accumulatorRotatesForceZToZero : Obligations.AccumulatorRotatesForceZToZero := by
  unfold Obligations.AccumulatorRotatesForceZToZero
  intro s
  simp only [List.forall_mem_cons]
  exact ⟨⟨_, rfl, rotateA_effect s .rlc⟩, ⟨_, rfl, rotateA_effect s .rrc⟩, ⟨_, rfl, rotateA_effect s .rl⟩,
    ⟨_, rfl, rotateA_effect s .rr⟩, by simp⟩

/-- Settles O42: a slot written, with flags. -/
theorem rotatesAndShiftsOfASlot : Obligations.RotatesAndShiftsOfASlot := by
  unfold Obligations.RotatesAndShiftsOfASlot
  intro op z s
  obtain ⟨hreg, hmem⟩ := Slots.setSlot_readBack s z (rotResult op (s.getSlot z) (s.flag .c))
  refine ⟨_, exec_rotOf op z s, ?_⟩
  unfold State.rotateSlot
  exact ⟨by simpa using hreg, by simpa using hmem, by simp⟩

/-- Settles O43: flags written, and nothing else. -/
theorem bitTestSetsZToTheInverse : Obligations.BitTestSetsZToTheInverse := by
  unfold Obligations.BitTestSetsZToTheInverse
  exact fun k z s => ⟨_, exec_bitOf k z s, by simp [State.testBit]⟩

/-! ### One bit of a byte -/

/-- The one bit of `1 << k`. -/
theorem getLsbD_one_shiftLeft {k j : Nat} (hj : j < 8) : (1#8 <<< k).getLsbD j = decide (j = k) := by
  rw [BitVec.getLsbD_shiftLeft, BitVec.getLsbD_one, Bool.eq_iff_iff]
  simp
  omega

theorem getLsbD_clearBit (v : Byte) {k j : Nat} (hj : j < 8) : (clearBit v k).getLsbD j = if j = k then false else v.getLsbD j := by
  unfold clearBit
  rw [BitVec.getLsbD_and, BitVec.getLsbD_not, getLsbD_one_shiftLeft hj]
  split <;> simp [*]

theorem getLsbD_setBit (v : Byte) {k j : Nat} (hj : j < 8) : (setBit v k).getLsbD j = if j = k then true else v.getLsbD j := by
  unfold setBit
  rw [BitVec.getLsbD_or, getLsbD_one_shiftLeft hj]
  split <;> simp [*]

/-- What an instruction that writes a slot and no flag leaves. -/
theorem setSlot_effect (s : State) (z : Slot) (r : Byte) :
    let t := (s.setSlot z r).advance 2
    ((z ≠ .indHl → t.getSlot z = r) ∧ (z = .indHl → t.read8 s.hl = seen s.hl r)) ∧ t.pc = s.pc + 2 ∧
      KeepsRegs (slotRegs z) s t ∧ t.f = s.f ∧ t.sp = s.sp ∧ KeepsControl s t ∧ KeepsMemoryBut (slotStores s z) s t := by
  refine ⟨?_, by simp⟩
  simpa using Slots.setSlot_readBack s z r

/-- Settles O44: a slot written with one bit of it changed. -/
theorem bitResetAndSetChangeOneBit : Obligations.BitResetAndSetChangeOneBit := by
  unfold Obligations.BitResetAndSetChangeOneBit
  intro k z s
  simp only [List.forall_mem_cons]
  refine ⟨⟨_, exec_resOf k z s, ?res⟩, ⟨_, exec_setOf k z s, ?set⟩, by simp⟩
  case res =>
    obtain ⟨hread, hframe⟩ := setSlot_effect s z (clearBit (s.getSlot z) k)
    exact ⟨⟨_, fun j hj => getLsbD_clearBit _ hj, hread⟩, hframe⟩
  case set =>
    obtain ⟨hread, hframe⟩ := setSlot_effect s z (setBit (s.getSlot z) k)
    exact ⟨⟨_, fun j hj => getLsbD_setBit _ hj, hread⟩, hframe⟩

/-! ### The extended table -/

/-- Every extended operation takes two bytes, and keeps SP and the control state. -/
theorem extended_effect (s : State) (xop : Byte) :
    ((s.extended xop).advance 2).pc = s.pc + 2 ∧ ((s.extended xop).advance 2).sp = s.sp ∧
      KeepsControl s ((s.extended xop).advance 2) := by
  unfold State.extended
  dsimp only
  split <;> simp [State.rotateSlot, State.testBit, State.resetBit, State.setSlotBit]

/-- The two decoders of the extended table agree (30_encoding.md R73), block by block: rotates and shifts, BIT, RES, SET. -/
theorem exec_decodeExtended (xop : Byte) (s : State) : exec (decodeExtended xop) s = .next ((s.extended xop).advance 2) := by
  have hx : xop.toNat < 256 := xop.isLt
  unfold decodeExtended State.extended
  obtain h | h | h | h : xop.toNat / 64 = 0 ∨ xop.toNat / 64 = 1 ∨ xop.toNat / 64 = 2 ∨ xop.toNat / 64 = 3 := by omega
  · rw [h]
    exact exec_rotOf _ _ s
  · rw [h]
    exact exec_bitOf ⟨xop.toNat / 8 % 8, Nat.mod_lt _ (by decide)⟩ _ s
  · rw [h]
    exact exec_resOf ⟨xop.toNat / 8 % 8, Nat.mod_lt _ (by decide)⟩ _ s
  · rw [h]
    exact exec_setOf ⟨xop.toNat / 8 % 8, Nat.mod_lt _ (by decide)⟩ _ s

/-- Settles O45. -/
theorem prefixRunsTheExtendedOperation : Obligations.PrefixRunsTheExtendedOperation := by
  unfold Obligations.PrefixRunsTheExtendedOperation
  exact fun xop s => ⟨(exec_decodeExtended xop s).symm, _, rfl, extended_effect s xop⟩

end Sys2Proof.Proofs.Bits
end

section
/-! Control flow, the stack instructions (45_control_flow_stack.md) and the system instructions (46_system.md). -/

namespace Sys2Proof.Proofs.Control
open Sys2Proof Sys2Proof.Machine

/-! ### Jumps -/

/-- JR's target over the integers: the next instruction's address plus the displacement (decision D16). -/
theorem relTarget_eq_ofInt (s : State) (e8 : Byte) : s.relTarget e8 = BitVec.ofInt 16 ((s.pc.toNat : Int) + 2 + e8.toInt) := by
  unfold State.relTarget
  rw [Primitives.add_sext16, BitVec.ofInt_add, BitVec.ofInt_natCast, BitVec.ofNat_toNat, BitVec.setWidth_eq, BitVec.ofInt_add,
    BitVec.ofInt_add, BitVec.ofInt_natCast, BitVec.ofNat_toNat, BitVec.setWidth_eq]
  rfl

/-- Settles O46. -/
theorem unconditionalJumps : Obligations.UnconditionalJumps := by
  unfold Obligations.UnconditionalJumps
  intro a16 e8 s
  rw [← relTarget_eq_ofInt]
  simp only [List.forall_mem_cons]
  exact ⟨rfl, rfl, rfl, by simp⟩

/-- A conditional jump sets PC to its target or past itself, and writes nothing else. -/
theorem jumpIf_eq (s : State) (cc : Cond) (target : Word) (len : Nat) :
    s.jumpIf cc target len = { s with pc := if s.cond cc then target else s.pc + BitVec.ofNat 16 len } := by
  unfold State.jumpIf
  split <;> rfl

/-- Settles O47: the condition is the flag's sample and polarity, condition by condition. -/
theorem conditionalJumps : Obligations.ConditionalJumps := by
  unfold Obligations.ConditionalJumps
  intro cc a16 e8 s
  rw [exec_jpCcOf, exec_jrCcOf, jumpIf_eq, jumpIf_eq, relTarget_eq_ofInt]
  cases cc <;> exact ⟨rfl, rfl⟩

/-! ### Calls and returns -/

/-- What a push of `v` followed by a write of PC leaves. -/
theorem push16_jump_effect (s : State) (v target : Word) :
    let t := (s.push16 v).jump target
    t.pc = target ∧ t.sp = s.sp - 2 ∧
      t.read8 (s.sp - 2) = seen (s.sp - 2) (loByte v) ∧ t.read8 (s.sp - 1) = seen (s.sp - 1) (hiByte v) ∧
      KeepsMemoryBut [s.sp - 2, s.sp - 1] s t ∧ KeepsRegs [] s t ∧ t.f = s.f ∧ KeepsControl s t :=
  ⟨rfl, rfl, State.read8_push16_lo s v, State.read8_push16_hi s v, Frames.keepsMemoryBut_push16 v, by simp⟩

/-- Settles O48: CALL and RST push the address after themselves. -/
theorem callsAndRestartsPushTheReturnAddress : Obligations.CallsAndRestartsPushTheReturnAddress := by
  unfold Obligations.CallsAndRestartsPushTheReturnAddress
  intro a16 v s
  simp only [List.forall_mem_cons]
  exact ⟨⟨_, rfl, push16_jump_effect s (s.pc + 3) a16⟩, ⟨_, exec_rstOf v s, push16_jump_effect s (s.pc + 1) _⟩, by simp⟩

/-- Settles O49: taken, it is the call; not taken, only PC moves. -/
theorem conditionalCalls : Obligations.ConditionalCalls := by
  unfold Obligations.ConditionalCalls
  intro cc a16 s taken
  have hcond : s.cond cc = taken := by cases cc <;> rfl
  rw [exec_callCcOf]
  unfold State.callIf
  rw [hcond]
  exact ⟨fun h => by rw [h]; rfl, fun h => by rw [h]; rfl, _, rfl⟩

/-- Settles O50. -/
theorem returnsPopThePc : Obligations.ReturnsPopThePc := by
  unfold Obligations.ReturnsPopThePc
  intro cc s taken back
  have hcond : s.cond cc = taken := by cases cc <;> rfl
  refine ⟨rfl, rfl, ?_⟩
  rw [exec_retCcOf]
  unfold State.retIf
  rw [hcond]
  rfl

/-! ### PUSH and POP -/

/-- Settles O51. -/
theorem pushStoresThePair : Obligations.PushStoresThePair := by
  unfold Obligations.PushStoresThePair
  intro p s
  exact ⟨_, exec_pushOf p s, rfl, State.read8_push16_lo s _, State.read8_push16_hi s _, rfl, Frames.keepsMemoryBut_push16 _, by simp⟩

/-- Settles O52: SP dropped, then the pair written. -/
theorem popLoadsThePair : Obligations.PopLoadsThePair := by
  unfold Obligations.PopLoadsThePair
  intro p s
  refine ⟨_, exec_popOf p s, ?_⟩
  unfold State.popPair State.top16
  simp +contextual

/-! ### System instructions -/

/-- Settles O53. -/
theorem nopDiEi : Obligations.NopDiEi := by
  unfold Obligations.NopDiEi
  exact fun s => ⟨rfl, rfl, rfl⟩

/-- Settles O54: thirteen instructions, each with its fault. -/
theorem stopsAndUnboundOpcodesAreFatal : Obligations.StopsAndUnboundOpcodesAreFatal := by
  unfold Obligations.StopsAndUnboundOpcodesAreFatal
  intro s
  simp only [List.forall_mem_cons]
  exact ⟨⟨rfl, rfl, by simp⟩, rfl, rfl, rfl, rfl, rfl, rfl, rfl, rfl, rfl, rfl, rfl, by simp⟩

end Sys2Proof.Proofs.Control
end

section
/-! The interrupt controller (60_exceptions.md section 2): the three steps of the poll, and the steps that run EI and DI (46_system.md). -/

namespace Sys2Proof.Proofs.Interrupts
open Sys2Proof Sys2Proof.Machine

/-! ### IF's cell -/

/-- No other address names IF's cell: the echo window's cells lie below 0x8000. -/
theorem cellOf_ne_if (p : Params) {a : Word} (h : a ≠ 0xFF0F) : cellOf p a ≠ cellOf p 0xFF0F := by
  have hif : cellOf p 0xFF0F = 0xFF0F := cellOf_of_not_echo p 0xFF0F (by decide)
  have hne : a.toNat ≠ 0xFF0F := fun e => h (BitVec.eq_of_toNat_eq e)
  rw [hif]
  by_cases he : 0xE000 ≤ a.toNat ∧ a.toNat < 0xF000
  · rw [cellOf_echo p a he.1 he.2]
    omega
  · rwa [cellOf_of_not_echo p a (by omega)]

/-! ### Step (a) -/

theorem read8_if_pollJoypad (s : State) (joy : Bool) :
    (s.pollJoypad joy).read8 0xFF0F = if joy then s.read8 0xFF0F ||| 0x10 else s.read8 0xFF0F := by
  cases joy
  · rfl
  · exact State.read8_write8_self s ifAddr _

theorem read8_pollJoypad_of_ne (s : State) (joy : Bool) {a : Word} (h : a ≠ 0xFF0F) : (s.pollJoypad joy).read8 a = s.read8 a := by
  cases joy
  · rfl
  · exact State.read8_write8_of_ne s _ (cellOf_ne_if s.params h)

theorem pollJoypad_eq_update_mem (s : State) (joy : Bool) : s.pollJoypad joy = { s with mem := (s.pollJoypad joy).mem } := by
  cases joy <;> rfl

@[simp] theorem pollJoypad_pc (s : State) (joy : Bool) : (s.pollJoypad joy).pc = s.pc := by cases joy <;> rfl
@[simp] theorem pollJoypad_sp (s : State) (joy : Bool) : (s.pollJoypad joy).sp = s.sp := by cases joy <;> rfl
@[simp] theorem pollJoypad_ime (s : State) (joy : Bool) : (s.pollJoypad joy).ime = s.ime := by cases joy <;> rfl
@[simp] theorem pollJoypad_enableRequested (s : State) (joy : Bool) : (s.pollJoypad joy).enableRequested = s.enableRequested := by
  cases joy <;> rfl
@[simp] theorem pollJoypad_disableRequested (s : State) (joy : Bool) : (s.pollJoypad joy).disableRequested = s.disableRequested := by
  cases joy <;> rfl

/-- Settles O55. -/
theorem pollOrsTheJoypadRequestIntoIf : Obligations.PollOrsTheJoypadRequestIntoIf := by
  unfold Obligations.PollOrsTheJoypadRequestIntoIf
  exact fun s joy => ⟨read8_if_pollJoypad s joy, fun _ => read8_pollJoypad_of_ne s joy, pollJoypad_eq_update_mem s joy⟩

/-- What step (b) sees after step (a). -/
theorem trigger_pollJoypad (s : State) (joy : Bool) : (s.pollJoypad joy).trigger = triggerWith s joy := by
  unfold State.trigger triggerWith
  rw [show ieAddr = 0xFFFF from rfl, show ifAddr = 0xFF0F from rfl, read8_if_pollJoypad, read8_pollJoypad_of_ne s joy (by decide)]

/-! ### Step (b) -/

theorem entered_enterInterrupt (s : State) (k : IrqClass) : Entered k s.sp s.pc (s.enterInterrupt k) :=
  ⟨rfl, rfl, State.read8_push16_lo (({ s with ime := false } : State).write8 ifAddr _) s.pc,
    State.read8_push16_hi (({ s with ime := false } : State).write8 ifAddr _) s.pc⟩

/-- The class's bit of IF is cleared and the others kept, where the push does not overwrite IF. -/
theorem read8_if_enterInterrupt (s : State) (k : IrqClass) (h0 : s.sp - 2 ≠ 0xFF0F) (h1 : s.sp - 1 ≠ 0xFF0F) :
    (s.enterInterrupt k).read8 0xFF0F = clearBit (s.read8 0xFF0F) k.bit :=
  calc (s.enterInterrupt k).read8 0xFF0F
    _ = (({ s with ime := false } : State).write8 ifAddr (clearBit (s.read8 ifAddr) k.bit)).read8 0xFF0F :=
      State.read8_push16_of_ne _ _ (cellOf_ne_if s.params h0).symm (cellOf_ne_if s.params h1).symm
    _ = clearBit (s.read8 0xFF0F) k.bit := State.read8_write8_self _ ifAddr _

theorem keepsMemoryBut_enterInterrupt (s : State) (k : IrqClass) :
    KeepsMemoryBut [0xFF0F, s.sp - 2, s.sp - 1] s (s.enterInterrupt k) := fun a h =>
  calc (s.enterInterrupt k).read8 a
    _ = (({ s with ime := false } : State).write8 ifAddr (clearBit (s.read8 ifAddr) k.bit)).read8 a :=
      State.read8_push16_of_ne _ _ (h (s.sp - 2) (by simp)) (h (s.sp - 1) (by simp))
    _ = s.read8 a := State.read8_write8_of_ne _ _ (h 0xFF0F (by simp))

/-- Settles O56: the class is entered, and entering it does what the statement lists. -/
theorem pollDispatchesTheHighestPendingClass : Obligations.PollDispatchesTheHighestPendingClass := by
  unfold Obligations.PollDispatchesTheHighestPendingClass
  intro s k hime hbit hlower
  rw [Steps.pollDispatch_of_firstClass_some hime (firstClass_eq_some s.trigger k hbit hlower)]
  obtain ⟨hpc, hsp, hlo, hhi⟩ := entered_enterInterrupt s k
  refine ⟨rfl, hpc, hsp, hlo, hhi, fun h0 h1 j hj => ?_, keepsMemoryBut_enterInterrupt s k, rfl⟩
  rw [read8_if_enterInterrupt s k h0 h1]
  exact Bits.getLsbD_clearBit _ hj

/-- Settles O57. -/
theorem pollWithNothingToDispatch : Obligations.PollWithNothingToDispatch := by
  unfold Obligations.PollWithNothingToDispatch
  exact fun s => ⟨Steps.pollDispatch_of_ime_clear, Steps.pollDispatch_of_trigger_zero, fun hime ht hbits =>
    Steps.pollDispatch_of_firstClass_none hime ht (firstClass_eq_none s.trigger hbits)⟩

/-- Step (b) leaves the requests to step (c). -/
theorem requests_pollDispatch (s : State) :
    s.pollDispatch.enableRequested = s.enableRequested ∧ s.pollDispatch.disableRequested = s.disableRequested := by
  unfold State.pollDispatch
  split
  · split
    · exact ⟨rfl, rfl⟩
    · split <;> exact ⟨rfl, rfl⟩
  · exact ⟨rfl, rfl⟩

/-! ### Step (c) -/

@[simp] theorem pollRequests_pc (s : State) : s.pollRequests.pc = s.pc := by rw [Steps.pollRequests_eq]
@[simp] theorem pollRequests_sp (s : State) : s.pollRequests.sp = s.sp := by rw [Steps.pollRequests_eq]
@[simp] theorem read8_pollRequests (s : State) (a : Word) : s.pollRequests.read8 a = s.read8 a := by
  rw [Steps.pollRequests_eq]
  rfl

/-! ### The whole poll -/

/-- A request decides IME, the disable request first (decision D24). -/
theorem poll_ime (s : State) (joy : Bool) :
    (s.poll joy).ime =
      if s.disableRequested then false else if s.enableRequested then true else (s.pollJoypad joy).pollDispatch.ime := by
  obtain ⟨hen, hdis⟩ := requests_pollDispatch (s.pollJoypad joy)
  rw [pollJoypad_enableRequested] at hen
  rw [pollJoypad_disableRequested] at hdis
  rw [← hen, ← hdis]
  exact congrArg State.ime (Steps.pollRequests_eq _)

theorem ime_poll_of_enable {s : State} (joy : Bool) (hdis : s.disableRequested = false) (hen : s.enableRequested = true) :
    (s.poll joy).ime = true := by
  rw [poll_ime, hdis, hen]
  rfl

theorem ime_poll_of_disable {s : State} (joy : Bool) (hdis : s.disableRequested = true) : (s.poll joy).ime = false := by
  rw [poll_ime, hdis]
  rfl

/-- With IME clear a poll moves neither PC nor SP, and writes no byte but IF. -/
theorem poll_of_ime_clear {s : State} (joy : Bool) (hime : s.ime = false) :
    (s.poll joy).pc = s.pc ∧ (s.poll joy).sp = s.sp ∧ ∀ a : Word, a ≠ 0xFF0F → (s.poll joy).read8 a = s.read8 a := by
  unfold State.poll
  rw [Steps.pollDispatch_of_ime_clear ((pollJoypad_ime s joy).trans hime)]
  refine ⟨by simp, by simp, fun a ha => ?_⟩
  rw [read8_pollRequests, read8_pollJoypad_of_ne s joy ha]

/-- With IME set a poll enters the class that is due. -/
theorem entered_poll {s : State} {joy : Bool} {k : IrqClass} (hime : s.ime = true) (hdue : Due s joy k) :
    Entered k s.sp s.pc (s.poll joy) := by
  obtain ⟨hbit, hlower⟩ := hdue
  rw [← trigger_pollJoypad] at hbit
  simp only [← trigger_pollJoypad] at hlower
  have hdispatch : (s.pollJoypad joy).pollDispatch = (s.pollJoypad joy).enterInterrupt k :=
    Steps.pollDispatch_of_firstClass_some ((pollJoypad_ime s joy).trans hime) (firstClass_eq_some _ k hbit hlower)
  have hentered := entered_enterInterrupt (s.pollJoypad joy) k
  unfold State.poll
  rw [hdispatch]
  simpa only [Entered, pollRequests_pc, pollRequests_sp, read8_pollRequests, pollJoypad_pc, pollJoypad_sp] using hentered

/-! ### EI and DI -/

/-- The opcodes of EI and DI (30_encoding.md R81; log 8). -/
theorem fetchInstr_ei {s : State} (h : s.read8 s.pc = 0xFB) : s.fetchInstr = .ei := by
  unfold State.fetchInstr
  rw [h]
  rfl

theorem fetchInstr_di {s : State} (h : s.read8 s.pc = 0xF3) : s.fetchInstr = .di := by
  unfold State.fetchInstr
  rw [h]
  rfl

/-- A step with IME set takes the class that is due once its instruction is done. -/
theorem step_enters {s v : State} (h : exec s.fetchInstr (Steps.afterInput s) = .next v) (hime : s.ime = true) :
    ∃ u, step s = .next u ∧ ∀ k, Due v (s.joyReq.headD false) k → Entered k v.sp v.pc u :=
  ⟨_, Steps.step_of_exec_next h, fun _ hdue =>
    entered_poll (s := v.count (s.read8 s.pc)) (exec_ime _ (Steps.afterInput s) v h hime) hdue⟩

/-- Settles O59: EI's own poll has the IME of before, and its request sets IME at the end; the next step begins with IME set. -/
theorem enableCountsFromTheNextPollOn : Obligations.EnableCountsFromTheNextPollOn := by
  unfold Obligations.EnableCountsFromTheNextPollOn
  intro s hop hdis
  have hexec : exec s.fetchInstr (Steps.afterInput s) = .next ((Steps.afterInput s).requestEnable.advance 1) := by
    rw [fetchInstr_ei hop]
    rfl
  have hime : ((((Steps.afterInput s).requestEnable.advance 1).count (s.read8 s.pc)).poll (s.joyReq.headD false)).ime = true :=
    ime_poll_of_enable _ hdis rfl
  exact ⟨_, Steps.step_of_exec_next hexec, hime, Steps.noRequest_poll _ _, fun hclear => poll_of_ime_clear _ hclear,
    fun hset _ hdue => entered_poll hset hdue, fun _ hv => step_enters hv hime⟩

/-- Settles O60: DI's own poll has the IME of before, and its request clears IME at the end. -/
theorem disableStillLetsOneInterruptThrough : Obligations.DisableStillLetsOneInterruptThrough := by
  unfold Obligations.DisableStillLetsOneInterruptThrough
  intro s hop
  have hexec : exec s.fetchInstr (Steps.afterInput s) = .next ((Steps.afterInput s).requestDisable.advance 1) := by
    rw [fetchInstr_di hop]
    rfl
  refine ⟨_, Steps.step_of_exec_next hexec, ime_poll_of_disable _ rfl, Steps.noRequest_poll _ _, fun hclear => ?_,
    fun hset _ hdue => entered_poll hset hdue⟩
  obtain ⟨hpc, hsp, -⟩ :=
    poll_of_ime_clear (s := ((Steps.afterInput s).requestDisable.advance 1).count (s.read8 s.pc)) (s.joyReq.headD false) hclear
  exact ⟨hpc, hsp⟩

end Sys2Proof.Proofs.Interrupts
end
